-- ==== Sys2Proof/Word.lean ====
section
/-! DEFINITION. The widths of 00_scope R6 and R8, the pin word of 30_encoding R90 as a record, and the 18-bit cycle key's type (R91). -/

namespace Sys2Proof

/-- A data value (00_scope R6 DATA_WIDTH, R8). -/
abbrev Byte := BitVec 8

/-- An address (00_scope R6 ADDR_WIDTH, R8). -/
abbrev Addr := BitVec 16

/-- The 18-bit cycle key `(SYNC, RW, ADDR)` of 30_encoding R91. -/
abbrev CycleKey := BitVec 18

/-- The pin word (10_state R28, 30_encoding R90): "A model may equally represent Pins as a record with these
fields". The packed layout is `packPins` and `unpackPins` of
Decode.lean. DEDUCED, safe (log 13). -/
structure Pins where
  /-- bits 15:0, driven by the CPU -/
  addr : Addr
  /-- bits 23:16, driven by the CPU on a write cycle and by the block on a read cycle -/
  data : Byte
  /-- bit 24: true is a read, false a write -/
  rw : Bool
  /-- bit 25: this read cycle is an opcode fetch -/
  sync : Bool
  /-- bit 26, driven by the block: the interrupt request line, encoded by IRQ_PIN_POLARITY -/
  irq : Bool
  /-- bit 27, driven by the block: always 0 -/
  nmi : Bool
  /-- bit 30, driven by the block: the reset line -/
  res : Bool
  /-- the CPU-defined bits 28, 29 and 31..=63, lowest first: the block passes them through (R125) -/
  other : BitVec 35
deriving DecidableEq, Repr, Inhabited

end Sys2Proof
end

