-- ==== Sys2Proof/Config.lean ====
section
/-! DEFINITION. The fixed parameters of 00_scope R6, the model parameters of R7 and R38, and the external CPU of R4. -/

namespace Sys2Proof

/-- MEM_SIZE (R6). -/
abbrev memSize : Nat := 0x10000
/-- FB_SIZE (R6). -/
abbrev fbSize : Nat := 0x100
/-- FB_BASE (R6). -/
abbrev fbBase : Addr := 0xC000
/-- TTY_BASE (R6). -/
abbrev ttyBase : Addr := 0xC100
/-- IRQ_CELL_ADDR (R6). -/
abbrev irqCellAddr : Addr := 0x00FF
/-- The IRQ cell's bit of the TTY, TTY_IRQ_BIT = 1 (R6), as a mask. -/
abbrev ttyIrqMask : Byte := 0x02
/-- ROM_BASE (R6). -/
abbrev romBase : Addr := 0xD000
/-- ROM_MAX (R6). -/
abbrev romMax : Nat := 0x3000
/-- RESET_VECTOR, low byte (R6). -/
abbrev resetVectorLo : Addr := 0xFFFC
/-- RESET_VECTOR, high byte (R6). -/
abbrev resetVectorHi : Addr := 0xFFFD

/-- IRQ_PIN_POLARITY (R7, 41_tty_irq R177). -/
inductive IrqPinPolarity where
  | pendingAsserts
  | legacyInverted
deriving DecidableEq, Repr, Inhabited

/-- HIT_LATCH_POLICY (R7, 42_debug_matcher R200, R201). -/
inductive HitLatchPolicy where
  | last
  | first
deriving DecidableEq, Repr, Inhabited

/-- WP_ACCESS_TYPE_REPORT (R7, 42_debug_matcher R201). -/
inductive WpAccessTypeReport where
  | direction
  | bothTables4
deriving DecidableEq, Repr, Inhabited

/-- The parameters of R7 that are data: "configuration, not state, and no operation changes them" (10_state R38).
TTY_QUEUE_CAPACITY is fixed at unbounded (D6) and has no field. -/
structure Config where
  /-- STEP_GUARD, at least 1 -/
  stepGuard : Nat
  /-- RELOAD_ROM_ON_RESET -/
  reloadRomOnReset : Bool
  /-- ROM_IMAGE, at most 0x3000 bytes -/
  romImage : List Byte
  /-- IRQ_PIN_POLARITY -/
  irqPinPolarity : IrqPinPolarity
  /-- HIT_LATCH_POLICY -/
  hitLatchPolicy : HitLatchPolicy
  /-- WP_ACCESS_TYPE_REPORT -/
  wpAccessTypeReport : WpAccessTypeReport
  /-- HOST_WRITE_FB_MIRROR -/
  hostWriteFbMirror : Bool
deriving DecidableEq, Repr

/-- The defaults of R7. The two parameters that R7 leaves OPEN have the values of the start state S0 of
95_test_vectors section 0. DESIGN CHOICE, unsafe (log 3): RELOAD_ROM_ON_RESET false and ROM_IMAGE empty. -/
abbrev defaultConfig : Config where
  stepGuard := 16
  reloadRomOnReset := false
  romImage := []
  irqPinPolarity := .pendingAsserts
  hitLatchPolicy := .last
  wpAccessTypeReport := .direction
  hostWriteFbMirror := false

/-- CpuTick of the external CPU (R4), its states numbered by natural numbers. No body: nothing can be proved of
what the CPU does. DESIGN CHOICE, safe (log 1). -/
opaque Config.extCpuTick : Nat → Pins → Nat × Pins

/-- CpuPC of the external CPU (R4, 10_state R45). No body. DESIGN CHOICE, safe (log 1). -/
opaque Config.extCpuPC : Nat → Addr

end Sys2Proof
end

