-- ==== Sys2Proof/Syntax.lean ====
section
/-! DEFINITION. The operations of the block (00_scope R3): 16 bus-cycle classes, 3 debug-match classes and 32 host
operations, one constructor per row of spec/opcode_table.json, and the host request that carries an operation's code
and operands as a value (30_encoding R96, R99, R102). -/

namespace Sys2Proof

/-- One operation of the block. In a bus-cycle class `sync` is the key's SYNC bit, which every router mask leaves
free (R92); `d` is the DATA byte that the CPU drives on a write. -/
inductive Instr where
  -- bus-cycle classes (R93), in decode-priority order
  | rdFb (sync : Bool) (i : Byte)
  | wrFb (sync : Bool) (i : Byte) (d : Byte)
  | rdTtyOstat (sync : Bool)
  | wrTtyOstat (sync : Bool) (d : Byte)
  | rdTtyOdata (sync : Bool)
  | wrTtyOdata (sync : Bool) (d : Byte)
  | rdTtyIstat (sync : Bool)
  | wrTtyIstat (sync : Bool) (d : Byte)
  | rdTtyIdata (sync : Bool)
  | wrTtyIdata (sync : Bool) (d : Byte)
  | rdTtyRsvd (sync : Bool) (r : BitVec 4)
  | wrTtyRsvd (sync : Bool) (r : BitVec 4) (d : Byte)
  | rdIrqcell (sync : Bool)
  | wrIrqcell (sync : Bool) (d : Byte)
  | rdRam (sync : Bool) (a : Addr)
  | wrRam (sync : Bool) (a : Addr) (d : Byte)
  -- debug-match classes (R97)
  | bpMatch (rw : Bool) (a : Addr)
  | wpwMatch (sync : Bool) (a : Addr)
  | wprMatch (a : Addr)
  -- host operations (R99)
  | tick (input : List Byte)
  | step
  | run (budget : Nat)
  | reset (input : List Byte)
  | loadRom (image : List Byte)
  | getTicks
  | anchorRealign
  | getAnchor
  | setBp (a : Addr)
  | clrBp (a : Addr)
  | setWp (a : Addr) (kind : Byte)
  | clrWp (a : Addr) (kind : Byte)
  | enableBp (b : Bool)
  | enableWp (b : Bool)
  | getBpHit
  | getBpHitAddr
  | clrBpHit
  | getWpHit
  | getWpHitAddr
  | getWpHitType
  | clrWpHit
  | insertZ (kind : Byte) (a : Addr)
  | removeZ (kind : Byte) (a : Addr)
  | memRead (a : Addr)
  | memWrite (a : Addr) (d : Byte)
  | memReadBlock (a : Addr) (len : Nat)
  | memWriteBlock (a : Addr) (data : List Byte)
  | fbRead (i : Byte)
  | fbWrite (i : Byte) (d : Byte)
  | ttyInject (b : Byte)
  | ttyReset
  | ttyCount
deriving DecidableEq, Repr

/-- The three kinds of operation (R3), each decoded at a port of its own. -/
inductive Port where
  /-- the router's decode of the cycle key (R92) -/
  | bus
  /-- the debug core's decode of the same key (R97) -/
  | debug
  /-- the host port (R99) -/
  | host
deriving DecidableEq, Repr

/-- The kind of an operation (R3). -/
def Instr.port : Instr → Port
  | .rdFb _ _ | .wrFb _ _ _ | .rdTtyOstat _ | .wrTtyOstat _ _ | .rdTtyOdata _ | .wrTtyOdata _ _
  | .rdTtyIstat _ | .wrTtyIstat _ _ | .rdTtyIdata _ | .wrTtyIdata _ _ | .rdTtyRsvd _ _ | .wrTtyRsvd _ _ _
  | .rdIrqcell _ | .wrIrqcell _ _ | .rdRam _ _ | .wrRam _ _ _ => .bus
  | .bpMatch _ _ | .wpwMatch _ _ | .wprMatch _ => .debug
  | .tick _ | .step | .run _ | .reset _ | .loadRom _ | .getTicks | .anchorRealign | .getAnchor
  | .setBp _ | .clrBp _ | .setWp _ _ | .clrWp _ _ | .enableBp _ | .enableWp _ | .getBpHit | .getBpHitAddr
  | .clrBpHit | .getWpHit | .getWpHitAddr | .getWpHitType | .clrWpHit | .insertZ _ _ | .removeZ _ _
  | .memRead _ | .memWrite _ _ | .memReadBlock _ _ | .memWriteBlock _ _ | .fbRead _ | .fbWrite _ _
  | .ttyInject _ | .ttyReset | .ttyCount => .host

/-- A request on the host port: "one request carrying typed operands (rule R99); the model passes it as a value, never
as a byte stream" (R96). An operation reads the operands that R99 gives it and no other. DESIGN CHOICE, safe (log 5):
one record with room for every operand of R102. -/
structure HostRequest where
  /-- the 8-bit operation code of R99 -/
  code : Byte
  addr : Addr := 0
  /-- a breakpoint or watchpoint type code (R98) -/
  kind : Byte := 0
  /-- a frame-buffer index -/
  index : Byte := 0
  /-- a byte to write or to inject -/
  value : Byte := 0
  flag : Bool := false
  /-- a budget or a length -/
  count : Nat := 0
  /-- an input, an image or block data -/
  bytes : List Byte := []
deriving DecidableEq, Repr

end Sys2Proof
end

