-- ==== Sys2Proof/WellFormed.lean ====
section
/-! DEFINITION. Which terms of Instr stand for an operation of the block: the operand ranges of 30_encoding R93 and R102,
and the ranges of the configuration (00_scope R7). -/

namespace Sys2Proof

/-- The addresses that rows 1 to 14 of R93 do not claim: "every other address". -/
def Addr.isRam (a : Addr) : Bool :=
  (a &&& 0xFF00) != fbBase && (a &&& 0xFFF0) != ttyBase && a != irqCellAddr

/-- The reserved TTY registers are 4..=15 (R93 rows 11 and 12, 41_tty_irq R170, R171). -/
def ttyReserved (r : BitVec 4) : Bool := decide (4 ≤ r.toNat)

/-- A RAM class has an address that no earlier row claims; a reserved-register class has an index in 4..=15. Every
other operand is legal at its width (R102). -/
def Instr.wellFormed : Instr → Bool
  | .rdTtyRsvd _ r | .wrTtyRsvd _ r _ => ttyReserved r
  | .rdRam _ a | .wrRam _ a _ => Addr.isRam a
  | .rdFb _ _ | .wrFb _ _ _ | .rdTtyOstat _ | .wrTtyOstat _ _ | .rdTtyOdata _ | .wrTtyOdata _ _
  | .rdTtyIstat _ | .wrTtyIstat _ _ | .rdTtyIdata _ | .wrTtyIdata _ _ | .rdIrqcell _ | .wrIrqcell _ _
  | .bpMatch _ _ | .wpwMatch _ _ | .wprMatch _
  | .tick _ | .step | .run _ | .reset _ | .loadRom _ | .getTicks | .anchorRealign | .getAnchor
  | .setBp _ | .clrBp _ | .setWp _ _ | .clrWp _ _ | .enableBp _ | .enableWp _ | .getBpHit | .getBpHitAddr
  | .clrBpHit | .getWpHit | .getWpHitAddr | .getWpHitType | .clrWpHit | .insertZ _ _ | .removeZ _ _
  | .memRead _ | .memWrite _ _ | .memReadBlock _ _ | .memWriteBlock _ _ | .fbRead _ | .fbWrite _ _
  | .ttyInject _ | .ttyReset | .ttyCount => true

/-- The ranges of R7: STEP_GUARD at least 1, ROM_IMAGE at most 0x3000 bytes. -/
def configWellFormed (c : Config) : Bool :=
  decide (1 ≤ c.stepGuard) && decide (c.romImage.length ≤ romMax)

end Sys2Proof
end

