-- ==== Sys2Proof/Decode.lean ====
section
/-! DEFINITION. The block's decoders (30_encoding): the packed pin word (R90), the cycle key (R91), the router's table
(R92, R93), the debug core's table (R97) and the host codes (R99); then the encoder; then the table-word reading the
host asks for. -/

namespace Sys2Proof

/-! ### The pin word and the cycle key -/

/-- The packed layout of R90: ADDR 15:0, DATA 23:16, RW 24, SYNC 25, IRQ 26, NMI 27, RES 30, CPU-defined 28, 29, 31..=63. -/
def packPins (p : Pins) : BitVec 64 :=
  p.other.extractLsb' 2 33 ++ BitVec.ofBool p.res ++ p.other.extractLsb' 0 2 ++ BitVec.ofBool p.nmi ++
    BitVec.ofBool p.irq ++ BitVec.ofBool p.sync ++ BitVec.ofBool p.rw ++ p.data ++ p.addr

/-- The fields of a packed pin word (R90). -/
def unpackPins (w : BitVec 64) : Pins where
  addr := w.extractLsb' 0 16
  data := w.extractLsb' 16 8
  rw := w.getLsbD 24
  sync := w.getLsbD 25
  irq := w.getLsbD 26
  nmi := w.getLsbD 27
  res := w.getLsbD 30
  other := w.extractLsb' 31 33 ++ w.extractLsb' 28 2

/-- The key with the given SYNC, RW and ADDR. -/
def mkKey (sync rw : Bool) (a : Addr) : CycleKey := BitVec.ofBool sync ++ BitVec.ofBool rw ++ a

/-- R91: `key = (pins.SYNC << 17) | (pins.RW << 16) | pins.ADDR`. -/
def cycleKey (p : Pins) : CycleKey := mkKey p.sync p.rw p.addr

/-- Key bit 17. -/
def keySync (k : CycleKey) : Bool := k.getLsbD 17
/-- Key bit 16. -/
def keyRw (k : CycleKey) : Bool := k.getLsbD 16
/-- Key bits 15:0. -/
def keyAddr (k : CycleKey) : Addr := k.extractLsb' 0 16

/-! ### Operand assembly -/

/-- R94: the TTY register index `r = (addr − 0xC100) & 0x0F`, which is `addr[3:0]`. -/
def ttyIndex (a : Addr) : BitVec 4 := a.extractLsb' 0 4

/-- R95: the frame-buffer index `i = addr − 0xC000`, which is `addr[7:0]`. -/
def fbIndex (a : Addr) : Byte := a.extractLsb' 0 8

/-- The address of TTY register `r` (R94 read backwards). -/
def ttyAddr (r : BitVec 4) : Addr := (0xC10 : BitVec 12) ++ r

/-- The address of frame-buffer byte `i` (R95 read backwards). -/
def fbAddr (i : Byte) : Addr := (0xC0 : BitVec 8) ++ i

/-! ### The three tables -/

/-- Why a decoder answers no operation. -/
inductive DecodeError where
  /-- no row of R93 applies; R92 says that this happens for no key -/
  | noBusRow (key : CycleKey)
  /-- R99: a code that is not in the host-operation table -/
  | unassignedHostCode (code : Byte)
deriving DecidableEq, Repr

/-- A row that applies to a key when `key & mask == pat` (R91), with the operation it stands for, built from the
key's SYNC, RW and ADDR and the pin word's DATA. -/
structure CycleRow where
  mask : CycleKey
  pat : CycleKey
  build : Bool → Bool → Addr → Byte → Instr

/-- R91: "a row applies when `key & mask == match`". -/
def CycleRow.applies (r : CycleRow) (k : CycleKey) : Bool := k &&& r.mask == r.pat

/-- The operation of an applying row. -/
def CycleRow.instr (r : CycleRow) (k : CycleKey) (d : Byte) : Instr := r.build (keySync k) (keyRw k) (keyAddr k) d

/-- R93, in decode-priority order. -/
def busRows : List CycleRow := [
  ⟨0x1FF00, 0x1C000, fun y _ a _ => .rdFb y (fbIndex a)⟩,
  ⟨0x1FF00, 0x0C000, fun y _ a d => .wrFb y (fbIndex a) d⟩,
  ⟨0x1FFFF, 0x1C100, fun y _ _ _ => .rdTtyOstat y⟩,
  ⟨0x1FFFF, 0x0C100, fun y _ _ d => .wrTtyOstat y d⟩,
  ⟨0x1FFFF, 0x1C101, fun y _ _ _ => .rdTtyOdata y⟩,
  ⟨0x1FFFF, 0x0C101, fun y _ _ d => .wrTtyOdata y d⟩,
  ⟨0x1FFFF, 0x1C102, fun y _ _ _ => .rdTtyIstat y⟩,
  ⟨0x1FFFF, 0x0C102, fun y _ _ d => .wrTtyIstat y d⟩,
  ⟨0x1FFFF, 0x1C103, fun y _ _ _ => .rdTtyIdata y⟩,
  ⟨0x1FFFF, 0x0C103, fun y _ _ d => .wrTtyIdata y d⟩,
  ⟨0x1FFF0, 0x1C100, fun y _ a _ => .rdTtyRsvd y (ttyIndex a)⟩,
  ⟨0x1FFF0, 0x0C100, fun y _ a d => .wrTtyRsvd y (ttyIndex a) d⟩,
  ⟨0x1FFFF, 0x100FF, fun y _ _ _ => .rdIrqcell y⟩,
  ⟨0x1FFFF, 0x000FF, fun y _ _ d => .wrIrqcell y d⟩,
  ⟨0x10000, 0x10000, fun y _ a _ => .rdRam y a⟩,
  ⟨0x10000, 0x00000, fun y _ a d => .wrRam y a d⟩]

/-- The router's decode (R92): the first row of R93 that applies. -/
def decodeBus (k : CycleKey) (d : Byte) : Except DecodeError Instr :=
  match busRows.find? (fun r => r.applies k) with
  | some r => .ok (r.instr k d)
  | none => .error (.noBusRow k)

/-- R97, in the order of the tick's steps 4 and 5. -/
def debugRows : List CycleRow := [
  ⟨0x20000, 0x20000, fun _ w a _ => .bpMatch w a⟩,
  ⟨0x10000, 0x00000, fun y _ a _ => .wpwMatch y a⟩,
  ⟨0x30000, 0x10000, fun _ _ a _ => .wprMatch a⟩]

/-- The debug core's classification (R97): every row that applies, "independently of the router". A SYNC write cycle is
in two classes, every other cycle in one. -/
def decodeDebug (k : CycleKey) : List Instr :=
  (debugRows.filter (fun r => r.applies k)).map (fun r => r.instr k 0)

/-- R99: the operation codes and the operands each operation takes. -/
def hostRows : List (Byte × (HostRequest → Instr)) := [
  (0x01, fun q => .tick q.bytes),
  (0x02, fun _ => .step),
  (0x03, fun q => .run q.count),
  (0x04, fun q => .reset q.bytes),
  (0x05, fun q => .loadRom q.bytes),
  (0x06, fun _ => .getTicks),
  (0x07, fun _ => .anchorRealign),
  (0x08, fun _ => .getAnchor),
  (0x10, fun q => .setBp q.addr),
  (0x11, fun q => .clrBp q.addr),
  (0x12, fun q => .setWp q.addr q.kind),
  (0x13, fun q => .clrWp q.addr q.kind),
  (0x14, fun q => .enableBp q.flag),
  (0x15, fun q => .enableWp q.flag),
  (0x16, fun _ => .getBpHit),
  (0x17, fun _ => .getBpHitAddr),
  (0x18, fun _ => .clrBpHit),
  (0x19, fun _ => .getWpHit),
  (0x1A, fun _ => .getWpHitAddr),
  (0x1B, fun _ => .getWpHitType),
  (0x1C, fun _ => .clrWpHit),
  (0x1D, fun q => .insertZ q.kind q.addr),
  (0x1E, fun q => .removeZ q.kind q.addr),
  (0x20, fun q => .memRead q.addr),
  (0x21, fun q => .memWrite q.addr q.value),
  (0x22, fun q => .memReadBlock q.addr q.count),
  (0x23, fun q => .memWriteBlock q.addr q.bytes),
  (0x24, fun q => .fbRead q.index),
  (0x25, fun q => .fbWrite q.index q.value),
  (0x30, fun q => .ttyInject q.value),
  (0x31, fun _ => .ttyReset),
  (0x32, fun _ => .ttyCount)]

/-- The host port's decode (R99): "Every other code is unassigned." -/
def decodeHost (q : HostRequest) : Except DecodeError Instr :=
  match hostRows.find? (fun r => r.1 == q.code) with
  | some r => .ok (r.2 q)
  | none => .error (.unassignedHostCode q.code)

/-- What stands at one of the three ports. -/
inductive Encoded where
  /-- a bus cycle: its key and the DATA byte of its pin word -/
  | bus (key : CycleKey) (data : Byte)
  /-- the same key as the debug core sees it -/
  | debug (key : CycleKey)
  /-- a host request -/
  | host (q : HostRequest)
deriving DecidableEq, Repr

/-- Every operation that an encoded word stands for at its port. Total; an unassigned host code is rejected by name. -/
def decode : Encoded → Except DecodeError (List Instr)
  | .bus k d => (decodeBus k d).map (fun i => [i])
  | .debug k => .ok (decodeDebug k)
  | .host q => (decodeHost q).map (fun i => [i])

/-! ### The encoder -/

/-- The word of an operation, from the tables of R93, R97 and R99. -/
def encode : Instr → Encoded
  | .rdFb y i => .bus (mkKey y true (fbAddr i)) 0
  | .wrFb y i d => .bus (mkKey y false (fbAddr i)) d
  | .rdTtyOstat y => .bus (mkKey y true (ttyAddr 0)) 0
  | .wrTtyOstat y d => .bus (mkKey y false (ttyAddr 0)) d
  | .rdTtyOdata y => .bus (mkKey y true (ttyAddr 1)) 0
  | .wrTtyOdata y d => .bus (mkKey y false (ttyAddr 1)) d
  | .rdTtyIstat y => .bus (mkKey y true (ttyAddr 2)) 0
  | .wrTtyIstat y d => .bus (mkKey y false (ttyAddr 2)) d
  | .rdTtyIdata y => .bus (mkKey y true (ttyAddr 3)) 0
  | .wrTtyIdata y d => .bus (mkKey y false (ttyAddr 3)) d
  | .rdTtyRsvd y r => .bus (mkKey y true (ttyAddr r)) 0
  | .wrTtyRsvd y r d => .bus (mkKey y false (ttyAddr r)) d
  | .rdIrqcell y => .bus (mkKey y true irqCellAddr) 0
  | .wrIrqcell y d => .bus (mkKey y false irqCellAddr) d
  | .rdRam y a => .bus (mkKey y true a) 0
  | .wrRam y a d => .bus (mkKey y false a) d
  | .bpMatch w a => .debug (mkKey true w a)
  | .wpwMatch y a => .debug (mkKey y false a)
  | .wprMatch a => .debug (mkKey false true a)
  | .tick input => .host { code := 0x01, bytes := input }
  | .step => .host { code := 0x02 }
  | .run budget => .host { code := 0x03, count := budget }
  | .reset input => .host { code := 0x04, bytes := input }
  | .loadRom image => .host { code := 0x05, bytes := image }
  | .getTicks => .host { code := 0x06 }
  | .anchorRealign => .host { code := 0x07 }
  | .getAnchor => .host { code := 0x08 }
  | .setBp a => .host { code := 0x10, addr := a }
  | .clrBp a => .host { code := 0x11, addr := a }
  | .setWp a k => .host { code := 0x12, addr := a, kind := k }
  | .clrWp a k => .host { code := 0x13, addr := a, kind := k }
  | .enableBp b => .host { code := 0x14, flag := b }
  | .enableWp b => .host { code := 0x15, flag := b }
  | .getBpHit => .host { code := 0x16 }
  | .getBpHitAddr => .host { code := 0x17 }
  | .clrBpHit => .host { code := 0x18 }
  | .getWpHit => .host { code := 0x19 }
  | .getWpHitAddr => .host { code := 0x1A }
  | .getWpHitType => .host { code := 0x1B }
  | .clrWpHit => .host { code := 0x1C }
  | .insertZ k a => .host { code := 0x1D, kind := k, addr := a }
  | .removeZ k a => .host { code := 0x1E, kind := k, addr := a }
  | .memRead a => .host { code := 0x20, addr := a }
  | .memWrite a d => .host { code := 0x21, addr := a, value := d }
  | .memReadBlock a n => .host { code := 0x22, addr := a, count := n }
  | .memWriteBlock a bs => .host { code := 0x23, addr := a, bytes := bs }
  | .fbRead i => .host { code := 0x24, index := i }
  | .fbWrite i d => .host { code := 0x25, index := i, value := d }
  | .ttyInject b => .host { code := 0x30, value := b }
  | .ttyReset => .host { code := 0x31 }
  | .ttyCount => .host { code := 0x32 }

/-! ### A word of the opcode table -/

/-- A word that the opcode table gives one byte is a host operation's code with every operand zero. -/
def tableWordIsHost (nbits : Nat) : Bool := decide (nbits ≤ 8)

/-- The host request of a one-byte table word. -/
def tableRequest (w : Nat) : HostRequest := { code := BitVec.ofNat 8 w }

/-- The pin word of the bus cycle of a longer table word: the key's SYNC, RW and ADDR, every other pin 0. -/
def tablePins (w : Nat) : Pins :=
  let k : CycleKey := BitVec.ofNat 18 w
  { addr := keyAddr k, data := 0, rw := keyRw k, sync := keySync k,
    irq := false, nmi := false, res := false, other := 0 }

/-- The operation of a word of spec/opcode_table.json. A word of more than 8 bits is a cycle key, and the answer is the
router's class. The debug-match rows are keyed by the same 18 bits (R97): such a word is at once a bus-cycle class and
one or two debug-match classes, one answer can name only one of them, and `decodeDebug` gives the others.
DESIGN CHOICE, safe (log 8). -/
def decodeTableWord (nbits w : Nat) : Option Instr :=
  if tableWordIsHost nbits then
    if w < 2 ^ 8 then (decodeHost (tableRequest w)).toOption else none
  else
    if w < 2 ^ 18 then (decodeBus (cycleKey (tablePins w)) 0).toOption else none

end Sys2Proof
end

