-- ==== Sys2Proof/Machine/State.lean ====
section
/-! DEFINITION. The block's state (10_state R47) as plain data, the model's own fields beside it, and the state after
power-on. -/

namespace Sys2Proof.Machine

/-- A 65,536-entry or 256-entry array, as the list of the entries that differ from the array's default value, indices
strictly rising (`Sparse.wf` of Ops.lean). DESIGN CHOICE, safe (log 11). -/
abbrev Sparse (α : Type) := List (Nat × α)

/-- Bytes by address: a list of Host.Cell. -/
abbrev Memory := Sparse Byte

/-- A boolean table (10_state R29, R32). -/
abbrev BitTable := Sparse Bool

/-- One cycle of a scripted CPU (95_test_vectors section 0): the pin word that CpuTick returns, and the value of CpuPC
while this entry is "the script entry about to run". -/
structure CpuCycle where
  pins : Pins
  pc : Addr := 0
deriving DecidableEq, Repr

/-- The state of the CPU, which is external (00_scope R4). While `script` has an entry the CPU is the scripted CPU of
95_test_vectors section 0; then it is the external CPU of Config, whose state is the number `core`. `seen` records
every pin word the CPU was driven with, oldest first. DESIGN CHOICE, safe (log 1). -/
structure CpuState where
  script : List CpuCycle
  seen : List Pins
  core : Nat
deriving DecidableEq, Repr

/-- The stop signals of 60_exceptions R282. The block itself produces SIGTRAP and SIGILL only. -/
inductive StopSignal where
  | sigint
  | sigill
  | sigtrap
deriving DecidableEq, Repr

/-- The result of RUN (43_step_reset R233). -/
structure RunResult where
  stopped : Bool
  ticks : Nat
  bp : Bool
  wp : Bool
deriving DecidableEq, Repr

/-- The reply of a host operation: the result column of 30_encoding R99 and the failure results of 60_exceptions R280. -/
inductive HostResult where
  /-- the operation has no result -/
  | none
  | pins (p : Pins)
  | signal (g : StopSignal)
  | run (r : RunResult)
  | ok
  | refused
  | unsupported
  | rangeError
  | nat (n : Nat)
  | addr (a : Addr)
  | bool (b : Bool)
  | byte (v : Byte)
  | bytes (l : List Byte)
deriving DecidableEq, Repr

/-- The state of the machine. -/
structure State where
  /-- the parameters of 00_scope R7; no operation changes them (R38). Held here by DESIGN CHOICE, safe (log 4) -/
  cfg : Config
  /-- the backing array (R23); byte 0x00FF is the IRQ cell (R24) -/
  mem : Memory
  /-- the frame buffer (R25) -/
  fb : Memory
  /-- the TTY input queue, front first (R27) -/
  ttyq : List Byte
  /-- every byte the block has emitted, oldest first (R26) -/
  ttyOut : List Byte
  /-- the pin word (R28) -/
  pins : Pins
  /-- the external CPU (R4) -/
  cpu : CpuState
  /-- the breakpoint table (R29) -/
  bp : BitTable
  /-- (R30) -/
  bpEnable : Bool
  /-- (R31) -/
  bpHit : Bool
  /-- (R31) -/
  bpHitAddr : Addr
  /-- the write watchpoint table (R32) -/
  wpWrite : BitTable
  /-- the read watchpoint table (R32) -/
  wpRead : BitTable
  /-- (R33) -/
  wpEnable : Bool
  /-- (R34) -/
  wpHit : Bool
  /-- (R34) -/
  wpHitAddr : Addr
  /-- (R34) -/
  wpHitType : Byte
  /-- the tick counter (R35) -/
  tickCount : Nat
  /-- (R36) -/
  anchor : Addr
  /-- (R36) -/
  anchorArmed : Bool
  /-- the model's own: the pump draws of the ticks that STEP and RUN will run. DESIGN CHOICE, safe (log 6) -/
  inputs : List (List Byte)
  /-- the model's own: the requests that wait on the host port, next first. DESIGN CHOICE, safe (log 5) -/
  hostq : List HostRequest
  /-- the model's own: the reply of the last host operation. DESIGN CHOICE, safe (log 5) -/
  result : HostResult
deriving DecidableEq, Repr

/-- No fault exists: "The block raises no synchronous exception" (60_exceptions R280), "No tick can fail"
(40_bus_fabric R123). -/
inductive Fault
deriving DecidableEq, Repr

/-- Why a step has no meaning. -/
inductive Refusal where
  /-- an arm of exec that has no meaning yet; no arm raises it now. Safe: nothing follows from a refusal -/
  | notModelled (mnemonic : String)
deriving DecidableEq, Repr

/-- The external CPU before its first tick (CpuInit, R4): no script, nothing recorded, the state numbered 0.
DESIGN CHOICE, unsafe (log 2). -/
def cpuInitState : CpuState := { script := [], seen := [], core := 0 }

/-- The pins of CpuInit (R44): external, every field 0. DESIGN CHOICE, unsafe (log 2). -/
def cpuInitPins : Pins :=
  { addr := 0, data := 0, rw := false, sync := false, irq := false, nmi := false, res := false, other := 0 }

/-- The power-on state of 10_state R44 under the default configuration, with nothing on the host port. R44's rule for
every configuration and every CpuInit is `powerOn` of Sequencer.lean; the two agree (Laws/Sequencer.lean). -/
def State.reset : State where
  cfg := defaultConfig
  mem := []
  fb := []
  ttyq := []
  ttyOut := []
  pins := cpuInitPins
  cpu := cpuInitState
  bp := []
  bpEnable := false
  bpHit := false
  bpHitAddr := 0
  wpWrite := []
  wpRead := []
  wpEnable := false
  wpHit := false
  wpHitAddr := 0
  wpHitType := 0
  tickCount := 0
  anchor := 0
  anchorArmed := true
  inputs := []
  hostq := []
  result := .none

end Sys2Proof.Machine
end

