-- ==== Sys2Proof/Machine/Ops.lean ====
section
/-! DEFINITION. The named operations over the state: the arrays (00_scope R9 `mem[a]`, `fb[i]`), the queue and the sink,
the pin word's DATA, the host port's reply, and the external CPU's two functions. The block has no exception entry and
no return to share: "It saves no state, changes no mode and selects no vector" (60_exceptions R286). -/

namespace Sys2Proof.Machine

/-! ### Sparse arrays -/

/-- Entry `a`: the listed value, else the array's default. -/
def Sparse.read {α : Type} (d : α) : Sparse α → Nat → α
  | [], _ => d
  | (k, v) :: m, a => if a = k then v else Sparse.read d m a

/-- The list without entry `a`. -/
def Sparse.erase {α : Type} (m : Sparse α) (a : Nat) : Sparse α := m.filter (fun c => c.1 != a)

/-- The list with `(a, v)` put before the first larger index. -/
def Sparse.insert {α : Type} (a : Nat) (v : α) : Sparse α → Sparse α
  | [] => [(a, v)]
  | (k, w) :: m => if a < k then (a, v) :: (k, w) :: m else (k, w) :: Sparse.insert a v m

/-- Entry `a` becomes `v`; writing the default value removes the entry, so equal arrays are equal lists. -/
def Sparse.write {α : Type} [DecidableEq α] (d : α) (m : Sparse α) (a : Nat) (v : α) : Sparse α :=
  if v = d then Sparse.erase m a else Sparse.insert a v (Sparse.erase m a)

/-- The canonical form from index `lo` on: indices strictly rising and below `size`, no entry equal to the default. -/
def Sparse.wfFrom {α : Type} [DecidableEq α] (d : α) (size : Nat) : Nat → Sparse α → Bool
  | _, [] => true
  | lo, (k, v) :: m => decide (lo ≤ k) && decide (k < size) && decide (v ≠ d) && Sparse.wfFrom d size (k + 1) m

/-- The canonical form. -/
def Sparse.wf {α : Type} [DecidableEq α] (d : α) (size : Nat) (m : Sparse α) : Bool := Sparse.wfFrom d size 0 m

/-- What a byte that nothing has written reads as: `mem` and `fb` are 0x00 at power-on (10_state R44, D7). -/
def unlistedByte : Byte := 0x00

def Memory.read (m : Memory) (a : Nat) : Byte := Sparse.read unlistedByte m a
def Memory.write (m : Memory) (a : Nat) (v : Byte) : Memory := Sparse.write unlistedByte m a v
/-- The canonical form of a memory of `size` bytes. -/
def Memory.wf (size : Nat) (m : Memory) : Bool := Sparse.wf unlistedByte size m

/-- Table entries are false at power-on (R44). -/
def BitTable.read (t : BitTable) (a : Nat) : Bool := Sparse.read false t a
def BitTable.write (t : BitTable) (a : Nat) (b : Bool) : BitTable := Sparse.write false t a b
def BitTable.wf (size : Nat) (t : BitTable) : Bool := Sparse.wf false size t

/-- `[ mem[a + i] | i in 0 .. n − 1 ]`. -/
def Memory.readList (m : Memory) (a : Nat) : Nat → List Byte
  | 0 => []
  | n + 1 => m.read a :: Memory.readList m (a + 1) n

/-- `for i do mem[a + i] <- bytes[i]`, in order. -/
def Memory.writeList (a : Nat) : List Byte → Memory → Memory
  | [], m => m
  | b :: bs, m => Memory.writeList (a + 1) bs (m.write a b)

/-! ### Storage -/

/-- `mem[a]` (R9). -/
def readMem (a : Addr) (s : State) : Byte := s.mem.read a.toNat
/-- `mem[a] <- v` (R9). No overlay. -/
def writeMem (a : Addr) (v : Byte) (s : State) : State := { s with mem := s.mem.write a.toNat v }
/-- `fb[i]` (R9). -/
def readFb (i : Byte) (s : State) : Byte := s.fb.read i.toNat
/-- `fb[i] <- v` (R9). -/
def writeFb (i : Byte) (v : Byte) (s : State) : State := { s with fb := s.fb.write i.toNat v }

/-- The IRQ cell, `mem[0x00FF]` (10_state R24). -/
def irqCell (s : State) : Byte := readMem irqCellAddr s

/-- `pins.DATA <- v` (R9). -/
def setData (v : Byte) (s : State) : State := { s with pins := { s.pins with data := v } }

/-- Step 8 of the tick on a read cycle: `p.DATA <- mem[a]`. -/
def shadowRead (a : Addr) (s : State) : State := setData (readMem a s) s

/-! ### The TTY's queue and sink -/

/-- `emit(b)` (R9, 10_state R26). -/
def emit (b : Byte) (s : State) : State := { s with ttyOut := s.ttyOut ++ [b] }
/-- Bytes enter the queue at the back, in arrival order (41_tty_irq R179). -/
def enqueue (bs : List Byte) (s : State) : State := { s with ttyq := s.ttyq ++ bs }
/-- `ttyq.front`, and 0x00 where the queue is empty (41_tty_irq R168). -/
def queueFront (s : State) : Byte := s.ttyq.headD 0x00
/-- `ttyq.pop`; an empty queue is not touched (R168). -/
def dequeue (s : State) : State := { s with ttyq := s.ttyq.tail }

/-! ### The debug tables -/

/-- `bp[a] <- b`. -/
def writeBp (a : Addr) (b : Bool) (s : State) : State := { s with bp := s.bp.write a.toNat b }
/-- `bp[a]`. -/
def readBp (a : Addr) (s : State) : Bool := s.bp.read a.toNat
/-- `wp_write[a]`. -/
def readWpWrite (a : Addr) (s : State) : Bool := s.wpWrite.read a.toNat
/-- `wp_read[a]`. -/
def readWpRead (a : Addr) (s : State) : Bool := s.wpRead.read a.toNat
/-- `wp_write[a] <- b` where `w`, and `wp_read[a] <- b` where `r`. -/
def writeWp (w r : Bool) (a : Addr) (b : Bool) (s : State) : State :=
  { s with
    wpWrite := if w then s.wpWrite.write a.toNat b else s.wpWrite
    wpRead := if r then s.wpRead.write a.toNat b else s.wpRead }

/-! ### The host port's reply -/

/-- `return r`. -/
def reply (r : HostResult) (s : State) : State := { s with result := r }

/-! ### The external CPU -/

/-- CpuTick (R4): the scripted CPU "returns the next cycle of a script" and records its input pins (95_test_vectors
section 0); with no script left, the external CPU of Config. DESIGN CHOICE, safe (log 1). -/
def cpuTick (c : CpuState) (p : Pins) : CpuState × Pins :=
  match c.script with
  | e :: rest => ({ script := rest, seen := c.seen ++ [p], core := c.core }, e.pins)
  | [] =>
    let r := Config.extCpuTick c.core p
    ({ script := [], seen := c.seen ++ [p], core := r.1 }, r.2)

/-- CpuPC (R4, 10_state R45). DESIGN CHOICE, safe (log 1). -/
def cpuPC (c : CpuState) : Addr :=
  match c.script with
  | e :: _ => e.pc
  | [] => Config.extCpuPC c.core

end Sys2Proof.Machine
end

