-- ==== Sys2Proof/Machine/Operands.lean ====
section
/-! DEFINITION. Operand forms of the host operations: type codes (30_encoding R98), block ranges (44_host_access R262),
the frame-buffer range, and the address map as data (20_memory R66, R72). The operands of a bus cycle are assembled in
Decode.lean (R94, R95). -/

namespace Sys2Proof.Machine

/-- R98, R194: type codes 0 and 1 both select the breakpoint table. -/
def isBreakpointCode (kind : Byte) : Bool := kind == 0 || kind == 1

/-- R98, R192: the watchpoint tables (write, read) that a type code selects. -/
def watchTables (kind : Byte) : Option (Bool × Bool) :=
  if kind = 2 then some (true, false)
  else if kind = 3 then some (false, true)
  else if kind = 4 then some (true, true)
  else none

/-- R262, R263: `addr + len > 0x10000`, in exact arithmetic. -/
def blockOutOfRange (a : Addr) (len : Nat) : Bool := decide (memSize < a.toNat + len)

/-- `addr & 0xFF00 = 0xC000` (R120 step 9, R261). -/
def inFbRange (a : Addr) : Bool := (a &&& 0xFF00) == fbBase

/-- `addr & 0xFFF0 = 0xC100` (R120 step 9, 90_conflicts C1). -/
def inTtyRange (a : Addr) : Bool := (a &&& 0xFFF0) == ttyBase

/-- The kinds of region of the address map (20_memory R66). -/
inductive RegionKind where
  | frameBuffer
  | tty
  | irqCell
  | ram
deriving DecidableEq, Repr

/-- R66: "Each bus cycle takes the first row whose range contains pins.ADDR", by the ranges themselves. -/
def regionOf (a : Addr) : RegionKind :=
  if 0xC000 ≤ a.toNat ∧ a.toNat ≤ 0xC0FF then .frameBuffer
  else if 0xC100 ≤ a.toNat ∧ a.toNat ≤ 0xC10F then .tty
  else if a.toNat = 0x00FF then .irqCell
  else .ram

/-- A region of the debugger-facing memory-map descriptor (20_memory R72): start, length, and whether its label is ROM. -/
structure DescriptorRegion where
  start : Nat
  length : Nat
  rom : Bool
deriving DecidableEq, Repr

/-- The regions of R72, recorded there "for reference": the bus does not honour the ROM label (R67). -/
def descriptorRegions : List DescriptorRegion := [
  ⟨0x0000, 0xC000, false⟩, ⟨0xC000, 0x0100, false⟩, ⟨0xC100, 0x0010, false⟩, ⟨0xC110, 0x0EF0, false⟩,
  ⟨0xD000, 0x3000, true⟩]

/-- The reset target (20_memory R62): `mem[0xFFFC] | (mem[0xFFFD] << 8)`. -/
def resetTarget (s : State) : Addr := readMem resetVectorHi s ++ readMem resetVectorLo s

end Sys2Proof.Machine
end

