-- ==== Sys2Proof/Machine/Flags.lean ====
section
/-! DEFINITION. Every flag computation of the spec: the IRQ cell's bit 1 and the IRQ line (41_tty_irq R161, R172, R177),
the hit latches (42_debug_matcher R200, R201), the anchor's armed flag (43_step_reset R240) and the stop signals'
codes (60_exceptions R282). The block has no condition codes (10_state R42). -/

namespace Sys2Proof.Machine

/-! ### The TTY request and the IRQ line -/

/-- `ttyq ≠ []`. -/
def ttyPending (s : State) : Bool := !s.ttyq.isEmpty

/-- R177 `IrqEncode`. -/
def irqEncode (pol : IrqPinPolarity) (pending : Bool) : Bool :=
  match pol with
  | .pendingAsserts => pending
  | .legacyInverted => !pending

/-- R172 `IrqLiveness`: bit 1 of the cell equals the queue's non-emptiness, "and leaves the other seven bits unchanged". -/
def irqLiveness (s : State) : State :=
  writeMem irqCellAddr ((irqCell s &&& 0xFD) ||| (if ttyPending s then ttyIrqMask else 0x00)) s

/-- R161, second line: `if s.ttyq ≠ [] then s.mem[0x00FF] <- s.mem[0x00FF] | 0x02`. -/
def pumpIrq (s : State) : State :=
  { s with mem := if ttyPending s then s.mem.write irqCellAddr.toNat (irqCell s ||| ttyIrqMask) else s.mem }

/-- Step 7 of the tick (R120): `p.IRQ <- IrqEncode(mem[0x00FF] ≠ 0x00)` and `p.NMI <- 0`.
RES stays as CpuTick returned it. DEDUCED, unsafe (log 9). -/
def driveLines (s : State) : State :=
  { s with pins := { s.pins with
      irq := irqEncode s.cfg.irqPinPolarity (irqCell s != 0x00)
      nmi := false } }

/-! ### The hit latches -/

/-- R200 `latch_bp(a)`. -/
def latchBp (a : Addr) (s : State) : State :=
  { s with
    bpHitAddr := if s.cfg.hitLatchPolicy = .last ∨ s.bpHit = false then a else s.bpHitAddr
    bpHit := true }

/-- The direction of a matched cycle (R201). -/
inductive WatchDir where
  | write
  | read
deriving DecidableEq, Repr

/-- R201 `WType(a, dir)`. -/
def wType (a : Addr) (dir : WatchDir) (s : State) : Byte :=
  if s.cfg.wpAccessTypeReport = .bothTables4 ∧ readWpWrite a s = true ∧ readWpRead a s = true then 4
  else match dir with
    | .write => 2
    | .read => 3

/-- R201 `latch_wp(a, t)`. -/
def latchWp (a : Addr) (t : Byte) (s : State) : State :=
  { s with
    wpHitAddr := if s.cfg.hitLatchPolicy = .last ∨ s.wpHit = false then a else s.wpHitAddr
    wpHitType := if s.cfg.hitLatchPolicy = .last ∨ s.wpHit = false then t else s.wpHitType
    wpHit := true }

/-! ### The anchor -/

/-- R240 `AnchorUpdate(s, p, pc0)`, with `p` the pin word that CpuTick returned in this tick, held in `s.pins`. -/
def anchorUpdate (pc0 : Addr) (s : State) : State :=
  { s with
    anchor := if (s.pins.sync = true ∨ s.anchorArmed = true) ∧ s.pins.addr = pc0 then s.pins.addr else s.anchor
    anchorArmed := (s.pins.sync || s.anchorArmed) && s.pins.addr != pc0 }

/-! ### Stop signals -/

/-- R282: the 8-bit codes. -/
def StopSignal.code : StopSignal → Byte
  | .sigint => 2
  | .sigill => 4
  | .sigtrap => 5

end Sys2Proof.Machine
end

