-- ==== Sys2Proof/Machine/BusFabric.lean ====
section
/-! DEFINITION. The bus-cycle classes that reach no TTY register (40_bus_fabric R130 to R135): each is steps 8 and 9 of the
tick for its cycle, on the pin word held in the state. DATA is the only pin it writes (R125) (log 7). -/

namespace Sys2Proof.Machine

/-- Steps 8 and 9 of a read that no overlay claims (R130, R132). -/
def ramRead (a : Addr) (s : State) : State := shadowRead a s

/-- Steps 8 and 9 of a write that no overlay claims (R131, R133). -/
def ramWrite (a : Addr) (d : Byte) (s : State) : State := writeMem a d s

/-- R134: step 8 `p.DATA <- mem[a]`, then step 9 `p.DATA <- fb[i]`. -/
def fbCycleRead (i : Byte) (s : State) : State :=
  let t := shadowRead (fbAddr i) s
  setData (readFb i t) t

/-- R135: step 8 `mem[a] <- d`, then step 9 `fb[i] <- d`. -/
def fbCycleWrite (i : Byte) (d : Byte) (s : State) : State := writeFb i d (writeMem (fbAddr i) d s)

/-- RD_RAM (R130). -/
def execRdRam (_sync : Bool) (a : Addr) (s : State) : Host.Outcome State Fault Refusal := .next (ramRead a s)

/-- WR_RAM (R131). -/
def execWrRam (_sync : Bool) (a : Addr) (d : Byte) (s : State) : Host.Outcome State Fault Refusal :=
  .next (ramWrite a d s)

/-- RD_IRQCELL (R132). -/
def execRdIrqcell (_sync : Bool) (s : State) : Host.Outcome State Fault Refusal := .next (ramRead irqCellAddr s)

/-- WR_IRQCELL (R133). -/
def execWrIrqcell (_sync : Bool) (d : Byte) (s : State) : Host.Outcome State Fault Refusal :=
  .next (ramWrite irqCellAddr d s)

/-- RD_FB (R134). -/
def execRdFb (_sync : Bool) (i : Byte) (s : State) : Host.Outcome State Fault Refusal := .next (fbCycleRead i s)

/-- WR_FB (R135). -/
def execWrFb (_sync : Bool) (i : Byte) (d : Byte) (s : State) : Host.Outcome State Fault Refusal :=
  .next (fbCycleWrite i d s)

end Sys2Proof.Machine
end

