-- ==== Sys2Proof/Machine/Tty.lean ====
section
/-! DEFINITION. The TTY device (41_tty_irq): the ten register classes (R160 to R171), the pump (R161), and TTY_RESET,
TTY_INJECT and TTY_COUNT (R173 to R175). -/

namespace Sys2Proof.Machine

/-! ### Register accesses -/

/-- A read of register `r` that returns `v` (R160): the shadow read of step 8, then `p.DATA <- v`, then IrqLiveness. -/
def ttyRead (r : BitVec 4) (v : Byte) (s : State) : State :=
  irqLiveness (setData v (shadowRead (ttyAddr r) s))

/-- A write of register `r` with no device effect (R160): the shadow write of step 8, then IrqLiveness. -/
def ttyWriteIgnored (r : BitVec 4) (d : Byte) (s : State) : State :=
  irqLiveness (writeMem (ttyAddr r) d s)

/-- The value of in-status (R166). -/
def inStatus (s : State) : Byte := if ttyPending s then 0x01 else 0x00

/-- R168: DATA takes the front byte, or 0x00 from an empty queue; the byte leaves the queue; then IrqLiveness. -/
def ttyPopRead (s : State) : State :=
  irqLiveness (dequeue (setData (queueFront s) (shadowRead (ttyAddr 3) s)))

/-- R165: the shadow write, `emit(d)`, then IrqLiveness. -/
def ttyEmitWrite (d : Byte) (s : State) : State :=
  irqLiveness (emit d (writeMem (ttyAddr 1) d s))

/-- RD_TTY_OSTAT (R162): always 0x00, ready. -/
def execRdTtyOstat (_sync : Bool) (s : State) : Host.Outcome State Fault Refusal := .next (ttyRead 0 0x00 s)

/-- WR_TTY_OSTAT (R163): ignored. -/
def execWrTtyOstat (_sync : Bool) (d : Byte) (s : State) : Host.Outcome State Fault Refusal :=
  .next (ttyWriteIgnored 0 d s)

/-- RD_TTY_ODATA (R164): 0xFF. -/
def execRdTtyOdata (_sync : Bool) (s : State) : Host.Outcome State Fault Refusal := .next (ttyRead 1 0xFF s)

/-- WR_TTY_ODATA (R165): one byte emitted. -/
def execWrTtyOdata (_sync : Bool) (d : Byte) (s : State) : Host.Outcome State Fault Refusal := .next (ttyEmitWrite d s)

/-- RD_TTY_ISTAT (R166). -/
def execRdTtyIstat (_sync : Bool) (s : State) : Host.Outcome State Fault Refusal := .next (ttyRead 2 (inStatus s) s)

/-- WR_TTY_ISTAT (R167): no device effect (D3). -/
def execWrTtyIstat (_sync : Bool) (d : Byte) (s : State) : Host.Outcome State Fault Refusal :=
  .next (ttyWriteIgnored 2 d s)

/-- RD_TTY_IDATA (R168): the one operation that pops the queue. -/
def execRdTtyIdata (_sync : Bool) (s : State) : Host.Outcome State Fault Refusal := .next (ttyPopRead s)

/-- WR_TTY_IDATA (R169): no device effect (D3). -/
def execWrTtyIdata (_sync : Bool) (d : Byte) (s : State) : Host.Outcome State Fault Refusal :=
  .next (ttyWriteIgnored 3 d s)

/-- RD_TTY_RSVD (R170): 0x00. -/
def execRdTtyRsvd (_sync : Bool) (r : BitVec 4) (s : State) : Host.Outcome State Fault Refusal :=
  .next (ttyRead r 0x00 s)

/-- WR_TTY_RSVD (R171): no device effect. -/
def execWrTtyRsvd (_sync : Bool) (r : BitVec 4) (d : Byte) (s : State) : Host.Outcome State Fault Refusal :=
  .next (ttyWriteIgnored r d s)

/-! ### The pump and the host operations -/

/-- R161 `Pump(s, input)`. -/
def pump (input : List Byte) (s : State) : State := pumpIrq (enqueue input s)

/-- R173: the queue is emptied and bit 1 of the cell is cleared. -/
def ttyReset (s : State) : State :=
  writeMem irqCellAddr (irqCell s &&& 0xFD) { s with ttyq := [] }

/-- R174: the byte enters at the back and bit 1 of the cell is set. -/
def ttyInject (b : Byte) (s : State) : State :=
  writeMem irqCellAddr (irqCell s ||| ttyIrqMask) (enqueue [b] s)

/-- TTY_INJECT (R174). -/
def execTtyInject (b : Byte) (s : State) : Host.Outcome State Fault Refusal := .next (reply .none (ttyInject b s))

/-- TTY_RESET (R173). -/
def execTtyReset (s : State) : Host.Outcome State Fault Refusal := .next (reply .none (ttyReset s))

/-- TTY_COUNT (R175). -/
def execTtyCount (s : State) : Host.Outcome State Fault Refusal := .next (reply (.nat s.ttyq.length) s)

end Sys2Proof.Machine
end

