-- ==== Sys2Proof/Machine/DebugMatcher.lean ====
section
/-! DEFINITION. The debug core (42_debug_matcher): the three match classes (R197 to R199), the tables (R190 to R196), the
hit latches' host operations (R202 to R208), and insert and remove by type code (R209, R210). -/

namespace Sys2Proof.Machine

/-! ### Matching -/

/-- R197, for a cycle of class BP_MATCH (SYNC = 1): `if bp_enable ∧ bp[a] then latch_bp(a)`. -/
def bpCheck (a : Addr) (s : State) : State :=
  if s.bpEnable = true ∧ readBp a s = true then latchBp a s else s

/-- R198, for a cycle of class WPW_MATCH (RW = 0). -/
def wpWriteCheck (a : Addr) (s : State) : State :=
  if s.wpEnable = true ∧ readWpWrite a s = true then latchWp a (wType a .write s) s else s

/-- R199, for a cycle of class WPR_MATCH (RW = 1 and SYNC = 0). -/
def wpReadCheck (a : Addr) (s : State) : State :=
  if s.wpEnable = true ∧ readWpRead a s = true then latchWp a (wType a .read s) s else s

/-- BP_MATCH (R197). It tests SYNC alone and not RW (90_conflicts C4). -/
def execBpMatch (_rw : Bool) (a : Addr) (s : State) : Host.Outcome State Fault Refusal := .next (bpCheck a s)

/-- WPW_MATCH (R198). -/
def execWpwMatch (_sync : Bool) (a : Addr) (s : State) : Host.Outcome State Fault Refusal := .next (wpWriteCheck a s)

/-- WPR_MATCH (R199). -/
def execWprMatch (a : Addr) (s : State) : Host.Outcome State Fault Refusal := .next (wpReadCheck a s)

/-! ### Tables and enables -/

/-- R192 and R193: the tables that the type code selects take `b` at `a`; any other code is `unsupported`. -/
def setWatch (a : Addr) (kind : Byte) (b : Bool) (s : State) : State :=
  match watchTables kind with
  | some (w, r) => reply .ok (writeWp w r a b s)
  | none => reply .unsupported s

/-- R209 and R210: codes 0 and 1 go to the breakpoint table, the others as in R192 and R193. -/
def setByCode (kind : Byte) (a : Addr) (b : Bool) (s : State) : State :=
  if isBreakpointCode kind then reply .ok (writeBp a b s) else setWatch a kind b s

/-- SET_BP (R190). -/
def execSetBp (a : Addr) (s : State) : Host.Outcome State Fault Refusal := .next (reply .none (writeBp a true s))

/-- CLR_BP (R191). -/
def execClrBp (a : Addr) (s : State) : Host.Outcome State Fault Refusal := .next (reply .none (writeBp a false s))

/-- SET_WP (R192). -/
def execSetWp (a : Addr) (kind : Byte) (s : State) : Host.Outcome State Fault Refusal := .next (setWatch a kind true s)

/-- CLR_WP (R193). -/
def execClrWp (a : Addr) (kind : Byte) (s : State) : Host.Outcome State Fault Refusal := .next (setWatch a kind false s)

/-- ENABLE_BP (R195). -/
def execEnableBp (b : Bool) (s : State) : Host.Outcome State Fault Refusal :=
  .next (reply .none { s with bpEnable := b })

/-- ENABLE_WP (R196). -/
def execEnableWp (b : Bool) (s : State) : Host.Outcome State Fault Refusal :=
  .next (reply .none { s with wpEnable := b })

/-! ### Hit latches -/

/-- GET_BP_HIT (R202). -/
def execGetBpHit (s : State) : Host.Outcome State Fault Refusal := .next (reply (.bool s.bpHit) s)

/-- GET_BP_HIT_ADDR (R203): with no hit latched, the last recorded hit's address, or 0x0000 (log 12). -/
def execGetBpHitAddr (s : State) : Host.Outcome State Fault Refusal := .next (reply (.addr s.bpHitAddr) s)

/-- CLR_BP_HIT (R204): the flag only (D23). -/
def execClrBpHit (s : State) : Host.Outcome State Fault Refusal := .next (reply .none { s with bpHit := false })

/-- GET_WP_HIT (R205). -/
def execGetWpHit (s : State) : Host.Outcome State Fault Refusal := .next (reply (.bool s.wpHit) s)

/-- GET_WP_HIT_ADDR (R206) (log 12). -/
def execGetWpHitAddr (s : State) : Host.Outcome State Fault Refusal := .next (reply (.addr s.wpHitAddr) s)

/-- GET_WP_HIT_TYPE (R207) (log 12). -/
def execGetWpHitType (s : State) : Host.Outcome State Fault Refusal := .next (reply (.byte s.wpHitType) s)

/-- CLR_WP_HIT (R208): the flag only (D23). -/
def execClrWpHit (s : State) : Host.Outcome State Fault Refusal := .next (reply .none { s with wpHit := false })

/-! ### Insert and remove by type code -/

/-- INSERT_Z (R209). -/
def execInsertZ (kind : Byte) (a : Addr) (s : State) : Host.Outcome State Fault Refusal :=
  .next (setByCode kind a true s)

/-- REMOVE_Z (R210). -/
def execRemoveZ (kind : Byte) (a : Addr) (s : State) : Host.Outcome State Fault Refusal :=
  .next (setByCode kind a false s)

end Sys2Proof.Machine
end

