-- ==== Sys2Proof/Machine/HostAccess.lean ====
section
/-! DEFINITION. The host's backdoor access to the backing array and the frame buffer (44_host_access R260 to R265): no bus
cycle, no overlay, no matcher, no tick. -/

namespace Sys2Proof.Machine

/-- R261 `MEM_WRITE(addr, d)`. -/
def backdoorWrite (a : Addr) (d : Byte) (s : State) : State :=
  let t := writeMem a d s
  if s.cfg.hostWriteFbMirror = true ∧ inFbRange a = true then writeFb (fbIndex a) d t else t

/-- R263: `for i do MEM_WRITE(addr + i, data[i])`, in order. -/
def backdoorWriteList (a : Addr) : List Byte → State → State
  | [], s => s
  | b :: bs, s => backdoorWriteList (a + 1) bs (backdoorWrite a b s)

/-- MEM_READ (R260). -/
def execMemRead (a : Addr) (s : State) : Host.Outcome State Fault Refusal := .next (reply (.byte (readMem a s)) s)

/-- MEM_WRITE (R261). -/
def execMemWrite (a : Addr) (d : Byte) (s : State) : Host.Outcome State Fault Refusal :=
  .next (reply .none (backdoorWrite a d s))

/-- MEM_READ_BLOCK (R262): `range_error`, with no read, past 0xFFFF. -/
def execMemReadBlock (a : Addr) (len : Nat) (s : State) : Host.Outcome State Fault Refusal :=
  if blockOutOfRange a len then .next (reply .rangeError s)
  else .next (reply (.bytes (s.mem.readList a.toNat len)) s)

/-- MEM_WRITE_BLOCK (R263): `range_error`, with no byte written, past 0xFFFF. -/
def execMemWriteBlock (a : Addr) (data : List Byte) (s : State) : Host.Outcome State Fault Refusal :=
  if blockOutOfRange a data.length then .next (reply .rangeError s)
  else .next (reply .ok (backdoorWriteList a data s))

/-- FB_READ (R264). -/
def execFbRead (i : Byte) (s : State) : Host.Outcome State Fault Refusal := .next (reply (.byte (readFb i s)) s)

/-- FB_WRITE (R265): `fb[i]` only. -/
def execFbWrite (i : Byte) (d : Byte) (s : State) : Host.Outcome State Fault Refusal :=
  .next (reply .none (writeFb i d s))

end Sys2Proof.Machine
end

