-- ==== Sys2Proof/Machine/Tick.lean ====
section
/-! DEFINITION. One tick (40_bus_fabric R120), as its ten steps in order. Steps 4 and 5 run the debug-match classes that the
debug core's decode of the cycle key gives (30_encoding R97), steps 8 and 9 run the bus-cycle class that the router's
decode gives (R92), each by the same operation that exec's arm of that class answers with. TickReference.lean writes
R120 out without the decoders. -/

namespace Sys2Proof.Machine

/-- What a bus-cycle or debug-match class does to the state; a host operation is no class of a cycle. -/
def classEffect (i : Instr) (s : State) : State :=
  match i with
  | .rdFb _ j => fbCycleRead j s
  | .wrFb _ j d => fbCycleWrite j d s
  | .rdTtyOstat _ => ttyRead 0 0x00 s
  | .wrTtyOstat _ d => ttyWriteIgnored 0 d s
  | .rdTtyOdata _ => ttyRead 1 0xFF s
  | .wrTtyOdata _ d => ttyEmitWrite d s
  | .rdTtyIstat _ => ttyRead 2 (inStatus s) s
  | .wrTtyIstat _ d => ttyWriteIgnored 2 d s
  | .rdTtyIdata _ => ttyPopRead s
  | .wrTtyIdata _ d => ttyWriteIgnored 3 d s
  | .rdTtyRsvd _ r => ttyRead r 0x00 s
  | .wrTtyRsvd _ r d => ttyWriteIgnored r d s
  | .rdIrqcell _ => ramRead irqCellAddr s
  | .wrIrqcell _ d => ramWrite irqCellAddr d s
  | .rdRam _ a => ramRead a s
  | .wrRam _ a d => ramWrite a d s
  | .bpMatch _ a => bpCheck a s
  | .wpwMatch _ a => wpWriteCheck a s
  | .wprMatch a => wpReadCheck a s
  | .tick _ | .step | .run _ | .reset _ | .loadRom _ | .getTicks | .anchorRealign | .getAnchor
  | .setBp _ | .clrBp _ | .setWp _ _ | .clrWp _ _ | .enableBp _ | .enableWp _ | .getBpHit | .getBpHitAddr
  | .clrBpHit | .getWpHit | .getWpHitAddr | .getWpHitType | .clrWpHit | .insertZ _ _ | .removeZ _ _
  | .memRead _ | .memWrite _ _ | .memReadBlock _ _ | .memWriteBlock _ _ | .fbRead _ | .fbWrite _ _
  | .ttyInject _ | .ttyReset | .ttyCount => s

/-- Step 1: `mem[0x00FF] <- 0x00`. -/
def clearIrqCell (s : State) : State := writeMem irqCellAddr 0x00 s

/-- Step 2: the CPU advances one tick with last tick's pins; the pin word it returns is held in `pins` from here on. -/
def advanceCpu (s : State) : State :=
  { s with cpu := (cpuTick s.cpu s.pins).1, pins := (cpuTick s.cpu s.pins).2 }

/-- Steps 4 and 5: every debug-match class of the cycle, the fetch matcher first. -/
def runMatchers (s : State) : State :=
  (decodeDebug (cycleKey s.pins)).foldl (fun t i => classEffect i t) s

/-- Steps 8 and 9: the bus-cycle class of the cycle. -/
def runBusCycle (s : State) : State :=
  match decodeBus (cycleKey s.pins) s.pins.data with
  | .ok i => classEffect i s
  | .error _ => s

/-- Step 10. -/
def countTick (s : State) : State := { s with tickCount := s.tickCount + 1 }

/-- Steps 1 to 3. The program counter is sampled once, before the CPU advances (10_state R45). -/
def tickStart (s : State) : State := anchorUpdate (cpuPC s.cpu) (advanceCpu (clearIrqCell s))

/-- Steps 1 to 7: the state that the bus access of steps 8 and 9 acts on. -/
def tickToAccess (input : List Byte) (s : State) : State :=
  driveLines (pump input (runMatchers (tickStart s)))

/-- R120 `Tick(s, input)`. The pin word it returns is the new state's `pins`. -/
def tick (input : List Byte) (s : State) : State := countTick (runBusCycle (tickToAccess input s))

end Sys2Proof.Machine
end

