-- ==== Sys2Proof/Machine/Sequencer.lean ====
section
/-! DEFINITION. The sequencer (43_step_reset): TICK, STEP, RUN, RESET, LOAD_ROM, GET_TICKS, ANCHOR_REALIGN and GET_ANCHOR,
and the power-on state of 10_state R44. -/

namespace Sys2Proof.Machine

/-! ### Ticks of STEP and RUN -/

/-- One tick with the next pump draw, `Tick(s, inputs(n))` of R231 and R233. With no draw left the environment delivers
nothing. DESIGN CHOICE, safe (log 6). -/
def tickDrawn (s : State) : State := tick (s.inputs.headD []) { s with inputs := s.inputs.tail }

/-- `n` ticks, each with its own draw. -/
def runTicks : Nat → State → State
  | 0, s => s
  | n + 1, s => runTicks n (tickDrawn s)

/-! ### TICK -/

/-- TICK (R230): it returns the pin word. -/
def execTick (input : List Byte) (s : State) : Host.Outcome State Fault Refusal :=
  .next (reply (.pins (tick input s).pins) (tick input s))

/-! ### STEP -/

/-- The loop of R231 with at most `k + 1` ticks left: SYNC is tested first, then the guard. -/
def stepLoop : Nat → State → State × StopSignal
  | 0, s => (tickDrawn s, if (tickDrawn s).pins.sync then .sigtrap else .sigill)
  | k + 1, s => if (tickDrawn s).pins.sync then (tickDrawn s, .sigtrap) else stepLoop k (tickDrawn s)

/-- R231 `STEP()`: the loop always runs one tick, then stops at SYNC or when `n ≥ STEP_GUARD` (log 10). -/
def stepRun (s : State) : State × StopSignal := stepLoop (s.cfg.stepGuard - 1) s

/-- STEP (R231). -/
def execStep (s : State) : Host.Outcome State Fault Refusal := .next (reply (.signal (stepRun s).2) (stepRun s).1)

/-! ### RUN -/

/-- The loop of R233 after `k` ticks with `fuel` left. -/
def runLoop : Nat → Nat → State → State × RunResult
  | 0, k, s => (s, { stopped := false, ticks := k, bp := s.bpHit, wp := s.wpHit })
  | fuel + 1, k, s =>
    if (tickDrawn s).bpHit || (tickDrawn s).wpHit then
      (tickDrawn s, { stopped := true, ticks := k + 1, bp := (tickDrawn s).bpHit, wp := (tickDrawn s).wpHit })
    else runLoop fuel (k + 1) (tickDrawn s)

/-- RUN (R233). -/
def execRun (budget : Nat) (s : State) : Host.Outcome State Fault Refusal :=
  .next (reply (.run (runLoop budget 0 s).2) (runLoop budget 0 s).1)

/-! ### LOAD_ROM and RESET -/

/-- R236: `none` where the image is refused, else `mem` with the image from 0xD000 on. -/
def loadRomMem (image : List Byte) (m : Memory) : Option Memory :=
  if romMax < image.length then none else some (m.writeList romBase.toNat image)

/-- LOAD_ROM (R236). -/
def execLoadRom (image : List Byte) (s : State) : Host.Outcome State Fault Refusal :=
  match loadRomMem image s.mem with
  | none => .next (reply .refused s)
  | some m => .next (reply .ok { s with mem := m })

/-- `LOAD_ROM(ROM_IMAGE)` inside RESET and power-on: an image that R7 does not allow changes nothing (log 10). -/
def reloadRom (cfg : Config) (m : Memory) : Memory := (loadRomMem cfg.romImage m).getD m

/-- `pins.RES <- b` (R234). -/
def driveRes (b : Bool) (s : State) : State := { s with pins := { s.pins with res := b } }

/-- R234, before the reset tick: TTY_RESET, then the ROM reload if configured, then RES. -/
def resetPrepare (s : State) : State :=
  let t := ttyReset s
  driveRes true { t with mem := if t.cfg.reloadRomOnReset then reloadRom t.cfg t.mem else t.mem }

/-- R234 `RESET(input)`. -/
def blockReset (input : List Byte) (s : State) : State := driveRes false (tick input (resetPrepare s))

/-- RESET (R234). -/
def execReset (input : List Byte) (s : State) : Host.Outcome State Fault Refusal :=
  .next (reply .none (blockReset input s))

/-! ### Counter and anchor -/

/-- GET_TICKS (R241). -/
def execGetTicks (s : State) : Host.Outcome State Fault Refusal := .next (reply (.nat s.tickCount) s)

/-- ANCHOR_REALIGN (R242). -/
def execAnchorRealign (s : State) : Host.Outcome State Fault Refusal :=
  .next (reply .none { s with anchorArmed := true })

/-- GET_ANCHOR (R243). -/
def execGetAnchor (s : State) : Host.Outcome State Fault Refusal := .next (reply (.addr s.anchor) s)

/-! ### Power-on -/

/-- 10_state R44, for any configuration and any CpuInit: ROM_IMAGE loaded once, the pins of CpuInit with
`IRQ <- IrqEncode(false)` and `NMI <- 0`. -/
def powerOn (cfg : Config) (init : CpuState × Pins) : State :=
  { State.reset with
    cfg := cfg
    mem := reloadRom cfg []
    cpu := init.1
    pins := { init.2 with irq := irqEncode cfg.irqPinPolarity false, nmi := false } }

end Sys2Proof.Machine
end

