-- ==== Sys2Proof/Machine/HostPort.lean ====
section
/-! DEFINITION. The host port: the next request, the stop reports that a host reads off a run's result (60_exceptions R282,
D24), a debugger's detach (42_debug_matcher R213), and how a word of the opcode table is placed for the next step. -/

namespace Sys2Proof.Machine

/-- The next request and the state without it. With no request the driver issues nothing, and the block "is halted
whenever the host issues no tick" (43_step_reset R245). -/
def fetchRequest (s : State) : Option (HostRequest × State) :=
  match s.hostq with
  | [] => none
  | q :: rest => some (q, { s with hostq := rest })

/-- An unassigned code "changes no state and returns `refused`" (30_encoding R99). -/
def refuseRequest (s : State) : State := reply .refused s

/-- What a host reports of a stop (60_exceptions R282). DEDUCED, safe (log 14). -/
inductive StopReport where
  /-- SIGTRAP at the recorded breakpoint address -/
  | breakpoint (code : Byte) (a : Addr)
  /-- `(wp_hit_addr, wp_hit_type)`; the source gives no signal code -/
  | watchpoint (a : Addr) (kind : Byte)
deriving DecidableEq, Repr

/-- The order of R233 (b) and R285 (d): "the report order is the breakpoint first (signal 5), then the watchpoint". -/
def stopReports (s : State) : List StopReport :=
  (if s.bpHit then [.breakpoint StopSignal.sigtrap.code s.bpHitAddr] else []) ++
  (if s.wpHit then [.watchpoint s.wpHitAddr s.wpHitType] else [])

/-- R213: "one CLR_BP per breakpoint address that the debugger installed, followed by ENABLE_BP `false`". -/
def detachOps (installed : List Addr) : List Instr := installed.map Instr.clrBp ++ [.enableBp false]

/-- The host request of a host operation; any other operation is no request. -/
def requestOf (i : Instr) : Option HostRequest :=
  match encode i with
  | .host q => some q
  | .bus _ _ => none
  | .debug _ => none

/-- A table word, put where the next step takes its operation: a one-byte word is the next host request; a longer word
is a bus cycle, so the scripted CPU produces that cycle next and the next host request is a TICK that runs it. -/
def placeTableWord (nbits w : Nat) (s : State) : State :=
  if tableWordIsHost nbits then { s with hostq := tableRequest w :: s.hostq }
  else
    { s with
      hostq := { code := 0x01 } :: s.hostq
      cpu := { s.cpu with script := { pins := tablePins w } :: s.cpu.script } }

end Sys2Proof.Machine
end

