-- ==== Sys2Proof/Machine/Dispatch.lean ====
section
/-! DEFINITION. One arm per constructor of Instr, each one direct call of its meaning. -/

namespace Sys2Proof.Machine

def exec (i : Instr) (s : State) : Host.Outcome State Fault Refusal :=
  match i with
  | .rdFb sync j => Sys2Proof.Machine.execRdFb sync j s
  | .wrFb sync j d => Sys2Proof.Machine.execWrFb sync j d s
  | .rdTtyOstat sync => Sys2Proof.Machine.execRdTtyOstat sync s
  | .wrTtyOstat sync d => Sys2Proof.Machine.execWrTtyOstat sync d s
  | .rdTtyOdata sync => Sys2Proof.Machine.execRdTtyOdata sync s
  | .wrTtyOdata sync d => Sys2Proof.Machine.execWrTtyOdata sync d s
  | .rdTtyIstat sync => Sys2Proof.Machine.execRdTtyIstat sync s
  | .wrTtyIstat sync d => Sys2Proof.Machine.execWrTtyIstat sync d s
  | .rdTtyIdata sync => Sys2Proof.Machine.execRdTtyIdata sync s
  | .wrTtyIdata sync d => Sys2Proof.Machine.execWrTtyIdata sync d s
  | .rdTtyRsvd sync r => Sys2Proof.Machine.execRdTtyRsvd sync r s
  | .wrTtyRsvd sync r d => Sys2Proof.Machine.execWrTtyRsvd sync r d s
  | .rdIrqcell sync => Sys2Proof.Machine.execRdIrqcell sync s
  | .wrIrqcell sync d => Sys2Proof.Machine.execWrIrqcell sync d s
  | .rdRam sync a => Sys2Proof.Machine.execRdRam sync a s
  | .wrRam sync a d => Sys2Proof.Machine.execWrRam sync a d s
  | .bpMatch rw a => Sys2Proof.Machine.execBpMatch rw a s
  | .wpwMatch sync a => Sys2Proof.Machine.execWpwMatch sync a s
  | .wprMatch a => Sys2Proof.Machine.execWprMatch a s
  | .tick input => Sys2Proof.Machine.execTick input s
  | .step => Sys2Proof.Machine.execStep s
  | .run budget => Sys2Proof.Machine.execRun budget s
  | .reset input => Sys2Proof.Machine.execReset input s
  | .loadRom image => Sys2Proof.Machine.execLoadRom image s
  | .getTicks => Sys2Proof.Machine.execGetTicks s
  | .anchorRealign => Sys2Proof.Machine.execAnchorRealign s
  | .getAnchor => Sys2Proof.Machine.execGetAnchor s
  | .setBp a => Sys2Proof.Machine.execSetBp a s
  | .clrBp a => Sys2Proof.Machine.execClrBp a s
  | .setWp a kind => Sys2Proof.Machine.execSetWp a kind s
  | .clrWp a kind => Sys2Proof.Machine.execClrWp a kind s
  | .enableBp b => Sys2Proof.Machine.execEnableBp b s
  | .enableWp b => Sys2Proof.Machine.execEnableWp b s
  | .getBpHit => Sys2Proof.Machine.execGetBpHit s
  | .getBpHitAddr => Sys2Proof.Machine.execGetBpHitAddr s
  | .clrBpHit => Sys2Proof.Machine.execClrBpHit s
  | .getWpHit => Sys2Proof.Machine.execGetWpHit s
  | .getWpHitAddr => Sys2Proof.Machine.execGetWpHitAddr s
  | .getWpHitType => Sys2Proof.Machine.execGetWpHitType s
  | .clrWpHit => Sys2Proof.Machine.execClrWpHit s
  | .insertZ kind a => Sys2Proof.Machine.execInsertZ kind a s
  | .removeZ kind a => Sys2Proof.Machine.execRemoveZ kind a s
  | .memRead a => Sys2Proof.Machine.execMemRead a s
  | .memWrite a d => Sys2Proof.Machine.execMemWrite a d s
  | .memReadBlock a len => Sys2Proof.Machine.execMemReadBlock a len s
  | .memWriteBlock a data => Sys2Proof.Machine.execMemWriteBlock a data s
  | .fbRead j => Sys2Proof.Machine.execFbRead j s
  | .fbWrite j d => Sys2Proof.Machine.execFbWrite j d s
  | .ttyInject b => Sys2Proof.Machine.execTtyInject b s
  | .ttyReset => Sys2Proof.Machine.execTtyReset s
  | .ttyCount => Sys2Proof.Machine.execTtyCount s

end Sys2Proof.Machine
end

