-- ==== Sys2Proof/Machine/Step.lean ====
section
/-! DEFINITION. One step of the machine: the next host request, decoded and executed. Ticks run inside the requests that
run them, so every step is one indivisible action of the driver thread (00_scope R5) (log 7). -/

namespace Sys2Proof.Machine

/-- One step. With no request on the host port nothing happens (43_step_reset R245); an unassigned code is answered
`refused` (30_encoding R99). -/
def step (s : State) : Host.Outcome State Fault Refusal :=
  match fetchRequest s with
  | none => .next s
  | some (q, t) =>
    match decodeHost q with
    | .ok i => exec i t
    | .error _ => .next (refuseRequest t)

/-- `s` with a word of the opcode table where the next step takes its operation (log 7, log 8). -/
def State.withFetchWord (s : State) (nbits w : Nat) : State := placeTableWord nbits w s

end Sys2Proof.Machine
end

