-- ==== Sys2Proof/Machine/TickReference.lean ====
section
/-! DEFINITION. The address column of 30_encoding R93, and the pseudocode of 40_bus_fabric R120 and 41_tty_irq R160 line by line, without the decode tables: the
overlays are chosen by R120's own mask tests and the TTY register by the index of R94. It is a second reading of the
tick for the statements to compare `tick` with; no step runs it. -/

namespace Sys2Proof.Machine

/-- The bus-cycle class of a cycle by the address column of 30_encoding R93 and the address map of 20_memory R66: the region
that contains the address, then the direction, and in the TTY window the register index. -/
def routerReference (sync rw : Bool) (a : Addr) (d : Byte) : Instr :=
  match regionOf a with
  | .frameBuffer => if rw then .rdFb sync ((a - fbBase).setWidth 8) else .wrFb sync ((a - fbBase).setWidth 8) d
  | .tty =>
    if a = 0xC100 then if rw then .rdTtyOstat sync else .wrTtyOstat sync d
    else if a = 0xC101 then if rw then .rdTtyOdata sync else .wrTtyOdata sync d
    else if a = 0xC102 then if rw then .rdTtyIstat sync else .wrTtyIstat sync d
    else if a = 0xC103 then if rw then .rdTtyIdata sync else .wrTtyIdata sync d
    else if rw then .rdTtyRsvd sync ((a - ttyBase).setWidth 4) else .wrTtyRsvd sync ((a - ttyBase).setWidth 4) d
  | .irqCell => if rw then .rdIrqcell sync else .wrIrqcell sync d
  | .ram => if rw then .rdRam sync a else .wrRam sync a d

/-- R160 `TtyAccess(s, p, r)`, on the pin word held in the state. -/
def ttyAccessReference (r : BitVec 4) (s : State) : State :=
  let t :=
    if s.pins.rw then
      if r = 0 then setData 0x00 s
      else if r = 1 then setData 0xFF s
      else if r = 2 then setData (if s.ttyq ≠ [] then 0x01 else 0x00) s
      else if r = 3 then
        match s.ttyq with
        | b :: rest => { setData b s with ttyq := rest }
        | [] => setData 0x00 s
      else setData 0x00 s
    else
      if r = 1 then emit s.pins.data s else s
  irqLiveness t

/-- Steps 8 and 9 of R120. -/
def accessReference (s : State) : State :=
  let a := s.pins.addr
  let s8 := if s.pins.rw then setData (readMem a s) s else writeMem a s.pins.data s
  if inFbRange a then
    if s8.pins.rw then setData (readFb ((a - fbBase).setWidth 8) s8) s8
    else writeFb ((a - fbBase).setWidth 8) s8.pins.data s8
  else if inTtyRange a then ttyAccessReference (((a - ttyBase) &&& 0x0F).setWidth 4) s8
  else s8

/-- Steps 4 and 5 of R120. -/
def matchReference (s : State) : State :=
  let a := s.pins.addr
  let s4 := if s.bpEnable = true ∧ readBp a s = true ∧ s.pins.sync = true then latchBp a s else s
  if s4.wpEnable then
    if s4.pins.rw = false ∧ readWpWrite a s4 = true then latchWp a (wType a .write s4) s4
    else if s4.pins.rw = true ∧ s4.pins.sync = false ∧ readWpRead a s4 = true then latchWp a (wType a .read s4) s4
    else s4
  else s4

/-- R161 `Pump(s, input)`. -/
def pumpReference (input : List Byte) (s : State) : State :=
  let t := { s with ttyq := s.ttyq ++ input }
  if t.ttyq ≠ [] then writeMem irqCellAddr (readMem irqCellAddr t ||| 0x02) t else t

/-- R240 `AnchorUpdate(s, p, pc0)`. -/
def anchorReference (pc0 : Addr) (s : State) : State :=
  let t := if s.pins.sync then { s with anchorArmed := true } else s
  if t.anchorArmed = true ∧ t.pins.addr = pc0 then { t with anchor := t.pins.addr, anchorArmed := false } else t

/-- R120, steps 1 to 10. -/
def tickReference (input : List Byte) (s : State) : State :=
  let s1 := writeMem irqCellAddr 0x00 s
  let pc0 := cpuPC s1.cpu
  let r := cpuTick s1.cpu s1.pins
  let s2 := { s1 with cpu := r.1, pins := r.2 }
  let s3 := anchorReference pc0 s2
  let s5 := matchReference s3
  let s6 := pumpReference input s5
  let pending := readMem irqCellAddr s6 != 0x00
  let s7 := { s6 with pins := { s6.pins with irq := irqEncode s6.cfg.irqPinPolarity pending, nmi := false } }
  let s9 := accessReference s7
  { s9 with tickCount := s9.tickCount + 1 }

end Sys2Proof.Machine
end

