-- ==== Sys2Proof/Safety.lean ====
section
/-! DEFINITION. What the statements call a good state: the arrays are canonical, NMI is low, and the latched watchpoint
type is one that the spec gives. Every step goes on (60_exceptions R281), so no outcome is excluded. -/

namespace Sys2Proof.Machine

/-- Every array of the state has the canonical form of its size (10_state R23, R25, R29, R32). -/
def State.arraysCanonical (s : State) : Prop :=
  s.mem.wf memSize = true ∧ s.fb.wf fbSize = true ∧ s.bp.wf memSize = true ∧
    s.wpWrite.wf memSize = true ∧ s.wpRead.wf memSize = true

/-- 10_state R34: "`wp_hit_type` holds 2, 3 or 4 after any hit, and 0 before the first hit"; 42_debug_matcher R201: under
`direction` it is never 4. -/
def State.hitTypeLegal (s : State) : Prop :=
  (s.wpHitType = 0 ∨ s.wpHitType = 2 ∨ s.wpHitType = 3 ∨ s.wpHitType = 4) ∧
  (s.wpHit = true → s.wpHitType ≠ 0) ∧
  (s.cfg.wpAccessTypeReport = .direction → s.wpHitType ≠ 4)

/-- The invariant that every step keeps. -/
def State.Inv (s : State) : Prop :=
  s.arraysCanonical ∧ s.hitTypeLegal ∧ s.pins.nmi = false

/-- Two states agree on everything that only the host can reach (60_exceptions R290): the debug tables, the enables, the
latches, the tick counter and the anchor. -/
def sameHostOnly (s t : State) : Prop :=
  t.bp = s.bp ∧ t.wpWrite = s.wpWrite ∧ t.wpRead = s.wpRead ∧ t.bpEnable = s.bpEnable ∧ t.wpEnable = s.wpEnable ∧
  t.bpHit = s.bpHit ∧ t.bpHitAddr = s.bpHitAddr ∧ t.wpHit = s.wpHit ∧ t.wpHitAddr = s.wpHitAddr ∧
  t.wpHitType = s.wpHitType ∧ t.tickCount = s.tickCount ∧ t.anchor = s.anchor ∧ t.anchorArmed = s.anchorArmed

end Sys2Proof.Machine
end

