-- ==== Sys2Proof/Certificates/Slice0/Obligations.lean ====
section
/-! DEFINITION. The statements for the provers. Each is about the model's own functions; a docstring names the rule of spec/
that it formalises. -/

open Sys2Proof Sys2Proof.Machine


/-- Words of the opcode table decode to their operations (R93, R97, R99). For a cycle key decodeTableWord answers the
router's class (log 8). -/
def Obligations.OpcodeTableWordsDecode : Prop :=
  decodeTableWord 24 0x1C000 = some (.rdFb false 0x00) ∧
  decodeTableWord 24 0x0C0FF = some (.wrFb false 0xFF 0x00) ∧
  decodeTableWord 24 0x1C103 = some (.rdTtyIdata false) ∧
  decodeTableWord 24 0x0C101 = some (.wrTtyOdata false 0x00) ∧
  decodeTableWord 24 0x1C10F = some (.rdTtyRsvd false 15) ∧
  decodeTableWord 24 0x000FF = some (.wrIrqcell false 0x00) ∧
  decodeTableWord 24 0x3D000 = some (.rdRam true 0xD000) ∧
  decodeTableWord 24 0x0C110 = some (.wrRam false 0xC110 0x00) ∧
  decodeDebug 0x3D000 = [.bpMatch true 0xD000] ∧
  decodeDebug 0x00200 = [.wpwMatch false 0x0200] ∧
  decodeDebug 0x1FFFC = [.wprMatch 0xFFFC] ∧
  decodeTableWord 8 0x01 = some (.tick []) ∧
  decodeTableWord 8 0x12 = some (.setWp 0x0000 0x00) ∧
  decodeTableWord 8 0x25 = some (.fbWrite 0x00 0x00) ∧
  decodeTableWord 8 0x32 = some .ttyCount ∧
  decodeTableWord 8 0x09 = none

/-- Decoding the encoding of any well-formed operation gives it back (R91, R93, R97, R99, R102). -/
def Obligations.DecodeReadsBackEveryEncoding : Prop :=
  ∀ i : Instr, i.wellFormed = true →
    ∃ l, decode (encode i) = .ok l ∧ i ∈ l ∧ (i.port ≠ .debug → l = [i]) ∧
      ∀ j ∈ l, j.wellFormed = true ∧ encode j = encode i

/-- Every cycle key gets exactly one bus-cycle class, the first row that applies (R92). -/
def Obligations.RouterGivesEachCycleOneClass : Prop :=
  (∀ (k : CycleKey) (d : Byte), ∃ (before after : List CycleRow) (r : CycleRow),
    busRows = before ++ r :: after ∧ k &&& r.mask = r.pat ∧ (∀ r' ∈ before, k &&& r'.mask ≠ r'.pat) ∧
    decodeBus k d = .ok (r.instr k d) ∧ (r.instr k d).port = .bus ∧ (r.instr k d).wellFormed = true) ∧
  (∀ r ∈ busRows, r.mask.getLsbD 17 = false) ∧
  (∀ (y y' w : Bool) (a : Addr), busRows.find? (fun r => r.applies (mkKey y w a)) = busRows.find? (fun r => r.applies (mkKey y' w a)))

/-- The mask table routes every cycle as the address ranges say (R66, R68, R93, R94, R95). -/
def Obligations.RouterFollowsAddressMap : Prop :=
  ∀ (y w : Bool) (a : Addr) (d : Byte), decodeBus (mkKey y w a) d = .ok (routerReference y w a d)

/-- The packed pin word, in the layout the spec chose, has each field at its bits and loses nothing (30_encoding.md
section 1 (pin word), 92_eei_decisions.md D1, 93_implementation_defined.md G1). The positions are the spec's own
choice (R90: "This spec fixes the packed layout below"; D1, G1), and the model's following it is log 13, DEDUCED. -/
def Obligations.PinWordPacksLosslessly : Prop :=
  (∀ p : Pins, unpackPins (packPins p) = p) ∧ (∀ w : BitVec 64, packPins (unpackPins w) = w) ∧
  ∀ p : Pins, (packPins p).extractLsb' 0 16 = p.addr ∧ (packPins p).extractLsb' 16 8 = p.data ∧
    (packPins p).getLsbD 24 = p.rw ∧ (packPins p).getLsbD 25 = p.sync ∧ (packPins p).getLsbD 26 = p.irq ∧
    (packPins p).getLsbD 27 = p.nmi ∧ (packPins p).getLsbD 30 = p.res

/-- Debug-match classes: BP_MATCH iff SYNC, WPW_MATCH iff RW = 0, WPR_MATCH iff RW = 1 and SYNC = 0 (R97). -/
def Obligations.DebugClassesFollowSyncAndRw : Prop :=
  (∀ (y w : Bool) (a : Addr) (i : Instr), i ∈ decodeDebug (mkKey y w a) ↔
    (y = true ∧ i = .bpMatch w a) ∨ (w = false ∧ i = .wpwMatch y a) ∨ (w = true ∧ y = false ∧ i = .wprMatch a)) ∧
  (∀ (y w : Bool) (a : Addr), (decodeDebug (mkKey y w a)).length = if y = true ∧ w = false then 2 else 1) ∧
  (∀ (w : Bool) (a : Addr) (s : State), (s.bpEnable = false ∨ readBp a s = false) → exec (.bpMatch w a) s = .next s) ∧
  (∀ (y : Bool) (a : Addr) (s : State), (s.wpEnable = false ∨ readWpWrite a s = false) → exec (.wpwMatch y a) s = .next s) ∧
  (∀ (a : Addr) (s : State), (s.wpEnable = false ∨ readWpRead a s = false) → exec (.wprMatch a) s = .next s)

/-- A step runs the operation that the next host request decodes to (R5, R96, R99, 43_step_reset R245). The request
list hostq and the step of one request are the model's choice (log 5, log 7). -/
def Obligations.StepRunsTheDecodedRequest : Prop :=
  (∀ (s : State) (q : HostRequest) (rest : List HostRequest) (i : Instr), s.hostq = q :: rest → decodeHost q = .ok i →
    step s = exec i { s with hostq := rest }) ∧
  (∀ (s : State) (q : HostRequest) (rest : List HostRequest) (i : Instr), s.hostq = q :: rest → encode i = .host q →
    step s = exec i { s with hostq := rest }) ∧
  (∀ s : State, s.hostq = [] → step s = .next s)

/-- A request with an unassigned code returns refused and changes nothing else (R99, R280). The fields hostq and
result are the model's (log 5). -/
def Obligations.UnassignedCodeIsRefusedUnchanged : Prop :=
  ∀ (s : State) (q : HostRequest) (rest : List HostRequest), s.hostq = q :: rest →
    ¬ (0x01 ≤ q.code.toNat ∧ q.code.toNat ≤ 0x08) → ¬ (0x10 ≤ q.code.toNat ∧ q.code.toNat ≤ 0x1E) →
    ¬ (0x20 ≤ q.code.toNat ∧ q.code.toNat ≤ 0x25) → ¬ (0x30 ≤ q.code.toNat ∧ q.code.toNat ≤ 0x32) →
    step s = .next { s with hostq := rest, result := .refused }

/-- No step faults or is refused, and a turned-down request changes no state (R123, R280, R281). The fields hostq and
result are the model's (log 5). -/
def Obligations.EveryStepGoesOn : Prop :=
  (∀ s : State, ∃ t, step s = .next t) ∧
  ∀ (s t : State) (q : HostRequest) (rest : List HostRequest), s.hostq = q :: rest → step s = .next t →
    (t.result = .refused ∨ t.result = .unsupported ∨ t.result = .rangeError) →
    t = { s with hostq := rest, result := t.result }

/-- Inside a tick, the matchers and the bus access are exec of the decoded classes (R92, R97, R120). -/
def Obligations.TickRunsItsDecodedClasses : Prop :=
  (∀ (input : List Byte) (s : State), ∃ (i : Instr) (u : State),
    decodeBus (cycleKey (tickToAccess input s).pins) (tickToAccess input s).pins.data = .ok i ∧ i.wellFormed = true ∧
    i.port = .bus ∧ exec i (tickToAccess input s) = .next u ∧ tick input s = { u with tickCount := u.tickCount + 1 }) ∧
  (∀ s : State, s.pins.sync = true → s.pins.rw = true → exec (.bpMatch true s.pins.addr) s = .next (runMatchers s)) ∧
  (∀ s : State, s.pins.sync = false → s.pins.rw = true → exec (.wprMatch s.pins.addr) s = .next (runMatchers s)) ∧
  (∀ s : State, s.pins.sync = false → s.pins.rw = false →
    exec (.wpwMatch false s.pins.addr) s = .next (runMatchers s)) ∧
  (∀ s : State, s.pins.sync = true → s.pins.rw = false → ∃ u, exec (.bpMatch false s.pins.addr) s = .next u ∧
    exec (.wpwMatch true s.pins.addr) u = .next (runMatchers s))

/-- A tick with table-driven decoding is the ten-step algorithm of R120 (R120, R160). -/
def Obligations.TickIsTheTenStepAlgorithm : Prop :=
  ∀ (input : List Byte) (s : State), tick input s = tickReference input s

/-- RD_RAM and RD_IRQCELL put mem[a] on DATA and change nothing else (R130, R132). -/
def Obligations.RamReadPutsTheByteOnData : Prop :=
  (∀ (y : Bool) (a : Addr) (d : Byte), Addr.isRam a = true → decodeBus (mkKey y true a) d = .ok (.rdRam y a)) ∧
  (∀ (y : Bool) (a : Addr) (s : State), exec (.rdRam y a) s = .next { s with pins := { s.pins with data := readMem a s } }) ∧
  (∀ (y : Bool) (d : Byte), decodeBus (mkKey y true 0x00FF) d = .ok (.rdIrqcell y)) ∧
  (∀ (y : Bool) (s : State), exec (.rdIrqcell y) s = .next { s with pins := { s.pins with data := readMem 0x00FF s } })

/-- WR_RAM and WR_IRQCELL store DATA at the address and change nothing else (R131, R133, R67, R68). -/
def Obligations.RamWriteStoresExactlyOneByte : Prop :=
  (∀ (y : Bool) (a : Addr) (d : Byte), Addr.isRam a = true → decodeBus (mkKey y false a) d = .ok (.wrRam y a d)) ∧
  (∀ (y : Bool) (a : Addr) (d : Byte), 0xD000 ≤ a.toNat → decodeBus (mkKey y false a) d = .ok (.wrRam y a d)) ∧
  (∀ (y : Bool) (a : Addr) (d : Byte), 0xC110 ≤ a.toNat → a.toNat ≤ 0xC1FF →
    decodeBus (mkKey y false a) d = .ok (.wrRam y a d)) ∧
  (∀ (y : Bool) (a : Addr) (d : Byte) (s : State), ∃ t, exec (.wrRam y a d) s = .next t ∧
    (∀ b, readMem b t = if b = a then d else readMem b s) ∧ t = { s with mem := t.mem }) ∧
  (∀ (y : Bool) (d : Byte), decodeBus (mkKey y false 0x00FF) d = .ok (.wrIrqcell y d)) ∧
  (∀ (y : Bool) (d : Byte) (s : State), ∃ t, exec (.wrIrqcell y d) s = .next t ∧
    (∀ b, readMem b t = if b = 0x00FF then d else readMem b s) ∧ t = { s with mem := t.mem })

/-- RD_FB puts fb[addr - 0xC000] on DATA, not mem, and changes nothing else (R134). -/
def Obligations.FrameBufferReadShowsFb : Prop :=
  (∀ (y : Bool) (a : Addr) (d : Byte), 0xC000 ≤ a.toNat → a.toNat ≤ 0xC0FF →
    decodeBus (mkKey y true a) d = .ok (.rdFb y ((a - 0xC000).setWidth 8))) ∧
  (∀ (y : Bool) (a : Addr), mkKey y true a &&& 0x1FF00 = 0x1C000 ↔ 0xC000 ≤ a.toNat ∧ a.toNat ≤ 0xC0FF) ∧
  (∀ (y : Bool) (i : Byte) (s : State), exec (.rdFb y i) s = .next { s with pins := { s.pins with data := readFb i s } })

/-- WR_FB stores DATA in mem[a] and in fb[a - 0xC000] and changes nothing else (R135). -/
def Obligations.FrameBufferWriteStoresTwice : Prop :=
  (∀ (y : Bool) (a : Addr) (d : Byte), 0xC000 ≤ a.toNat → a.toNat ≤ 0xC0FF →
    decodeBus (mkKey y false a) d = .ok (.wrFb y ((a - 0xC000).setWidth 8) d) ∧ fbAddr ((a - 0xC000).setWidth 8) = a) ∧
  (∀ (y : Bool) (a : Addr), mkKey y false a &&& 0x1FF00 = 0x0C000 ↔ 0xC000 ≤ a.toNat ∧ a.toNat ≤ 0xC0FF) ∧
  (∀ (y : Bool) (i d : Byte) (s : State), ∃ t, exec (.wrFb y i d) s = .next t ∧
    (∀ b, readMem b t = if b = fbAddr i then d else readMem b s) ∧
    (∀ j, readFb j t = if j = i then d else readFb j s) ∧ t = { s with mem := t.mem, fb := t.fb })

/-- RD_TTY_OSTAT reads 0x00, RD_TTY_ODATA 0xFF, RD_TTY_RSVD 0x00 (R162, R164, R170, R172). -/
def Obligations.TtyConstantRegistersRead : Prop :=
  (∀ (y : Bool) (d : Byte), decodeBus (mkKey y true 0xC100) d = .ok (.rdTtyOstat y) ∧
    decodeBus (mkKey y true 0xC101) d = .ok (.rdTtyOdata y)) ∧
  (∀ (y : Bool) (r : BitVec 4) (d : Byte), 4 ≤ r.toNat →
    decodeBus (mkKey y true (0xC100 + r.setWidth 16)) d = .ok (.rdTtyRsvd y r)) ∧
  (∀ (y : Bool) (s : State), ∃ t, exec (.rdTtyOstat y) s = .next t ∧ t.pins = { s.pins with data := 0x00 } ∧
    (∀ b, b ≠ 0x00FF → readMem b t = readMem b s) ∧
    readMem 0x00FF t = (readMem 0x00FF s &&& 0xFD) ||| (if s.ttyq = [] then 0x00 else 0x02) ∧
    t = { s with pins := t.pins, mem := t.mem }) ∧
  (∀ (y : Bool) (s : State), ∃ t, exec (.rdTtyOdata y) s = .next t ∧ t.pins = { s.pins with data := 0xFF } ∧
    (∀ b, b ≠ 0x00FF → readMem b t = readMem b s) ∧
    readMem 0x00FF t = (readMem 0x00FF s &&& 0xFD) ||| (if s.ttyq = [] then 0x00 else 0x02) ∧
    t = { s with pins := t.pins, mem := t.mem }) ∧
  (∀ (y : Bool) (r : BitVec 4) (s : State), ∃ t, exec (.rdTtyRsvd y r) s = .next t ∧ t.pins = { s.pins with data := 0x00 } ∧
    (∀ b, b ≠ 0x00FF → readMem b t = readMem b s) ∧
    readMem 0x00FF t = (readMem 0x00FF s &&& 0xFD) ||| (if s.ttyq = [] then 0x00 else 0x02) ∧
    t = { s with pins := t.pins, mem := t.mem })

/-- RD_TTY_ISTAT reads 0x01 iff the queue is non-empty and leaves the queue alone (R166). -/
def Obligations.InStatusReadsQueueNonEmpty : Prop :=
  (∀ (y : Bool) (d : Byte), decodeBus (mkKey y true 0xC102) d = .ok (.rdTtyIstat y)) ∧
  (∀ (y w : Bool) (a : Addr), mkKey y w a &&& 0x1FFFF = 0x1C102 ↔ w = true ∧ a = 0xC102) ∧
  (∀ (y : Bool) (s : State), ∃ t, exec (.rdTtyIstat y) s = .next t ∧ t.pins = { s.pins with data := if s.ttyq = [] then 0x00 else 0x01 } ∧
    (∀ b, b ≠ 0x00FF → readMem b t = readMem b s) ∧
    readMem 0x00FF t = (readMem 0x00FF s &&& 0xFD) ||| (if s.ttyq = [] then 0x00 else 0x02) ∧
    t = { s with pins := t.pins, mem := t.mem }) ∧
  (∀ (input : List Byte) (s : State), (tick input s).pins.rw = true → (tick input s).pins.addr = 0xC102 →
    (tick input s).pins.data = (if s.ttyq ++ input = [] then 0x00 else 0x01) ∧ (tick input s).ttyq = s.ttyq ++ input)

/-- RD_TTY_IDATA pops and returns the front byte, or 0x00 from an empty queue (R168, R172). -/
def Obligations.InDataReadPopsTheFront : Prop :=
  (∀ (y : Bool) (d : Byte), decodeBus (mkKey y true 0xC103) d = .ok (.rdTtyIdata y)) ∧
  (∀ (y : Bool) (s : State), ∃ t, exec (.rdTtyIdata y) s = .next t ∧
    (∀ (b : Byte) (rest : List Byte), s.ttyq = b :: rest → t.pins = { s.pins with data := b } ∧ t.ttyq = rest) ∧
    (s.ttyq = [] → t.pins = { s.pins with data := 0x00 } ∧ t.ttyq = []) ∧
    (∀ b, b ≠ 0x00FF → readMem b t = readMem b s) ∧
    readMem 0x00FF t = (readMem 0x00FF s &&& 0xFD) ||| (if t.ttyq = [] then 0x00 else 0x02) ∧
    t = { s with pins := t.pins, mem := t.mem, ttyq := t.ttyq })

/-- WR_TTY_OSTAT, WR_TTY_ISTAT, WR_TTY_IDATA and WR_TTY_RSVD store the shadow byte only (R163, R167, R169, R171,
R172). -/
def Obligations.IgnoredTtyWritesOnlyShadow : Prop :=
  (∀ (y : Bool) (d : Byte), decodeBus (mkKey y false 0xC100) d = .ok (.wrTtyOstat y d)) ∧
  (∀ (y : Bool) (d : Byte) (s : State), ∃ t, exec (.wrTtyOstat y d) s = .next t ∧
    (∀ b, b ≠ 0x00FF → readMem b t = if b = 0xC100 then d else readMem b s) ∧
    readMem 0x00FF t = (readMem 0x00FF s &&& 0xFD) ||| (if s.ttyq = [] then 0x00 else 0x02) ∧
    t = { s with mem := t.mem }) ∧
  (∀ (y : Bool) (d : Byte), decodeBus (mkKey y false 0xC102) d = .ok (.wrTtyIstat y d)) ∧
  (∀ (y : Bool) (d : Byte) (s : State), ∃ t, exec (.wrTtyIstat y d) s = .next t ∧
    (∀ b, b ≠ 0x00FF → readMem b t = if b = 0xC102 then d else readMem b s) ∧
    readMem 0x00FF t = (readMem 0x00FF s &&& 0xFD) ||| (if s.ttyq = [] then 0x00 else 0x02) ∧
    t = { s with mem := t.mem }) ∧
  (∀ (y : Bool) (d : Byte), decodeBus (mkKey y false 0xC103) d = .ok (.wrTtyIdata y d)) ∧
  (∀ (y : Bool) (d : Byte) (s : State), ∃ t, exec (.wrTtyIdata y d) s = .next t ∧
    (∀ b, b ≠ 0x00FF → readMem b t = if b = 0xC103 then d else readMem b s) ∧
    readMem 0x00FF t = (readMem 0x00FF s &&& 0xFD) ||| (if s.ttyq = [] then 0x00 else 0x02) ∧
    t = { s with mem := t.mem }) ∧
  (∀ (y : Bool) (r : BitVec 4) (d : Byte), 4 ≤ r.toNat →
    decodeBus (mkKey y false (0xC100 + r.setWidth 16)) d = .ok (.wrTtyRsvd y r d)) ∧
  (∀ (y : Bool) (r : BitVec 4) (d : Byte) (s : State), ∃ t, exec (.wrTtyRsvd y r d) s = .next t ∧
    (∀ b, b ≠ 0x00FF → readMem b t = if b = 0xC100 + r.setWidth 16 then d else readMem b s) ∧
    readMem 0x00FF t = (readMem 0x00FF s &&& 0xFD) ||| (if s.ttyq = [] then 0x00 else 0x02) ∧
    t = { s with mem := t.mem })

/-- WR_TTY_ODATA appends the byte to the sink and stores the shadow byte (R165, R172). -/
def Obligations.OutDataWriteEmitsOneByte : Prop :=
  (∀ (y : Bool) (d : Byte), decodeBus (mkKey y false 0xC101) d = .ok (.wrTtyOdata y d)) ∧
  (∀ (y : Bool) (d : Byte) (s : State), ∃ t, exec (.wrTtyOdata y d) s = .next t ∧ t.ttyOut = s.ttyOut ++ [d] ∧
    (∀ b, b ≠ 0x00FF → readMem b t = if b = 0xC101 then d else readMem b s) ∧
    readMem 0x00FF t = (readMem 0x00FF s &&& 0xFD) ||| (if s.ttyq = [] then 0x00 else 0x02) ∧
    t = { s with mem := t.mem, ttyOut := t.ttyOut })

/-- BP_MATCH latches the address iff bp_enable and bp[a] (R197, R200). -/
def Obligations.FetchMatcherLatchesBreakpoint : Prop :=
  ∀ (w : Bool) (a : Addr) (s : State), ∃ t, exec (.bpMatch w a) s = .next t ∧
    (s.bpEnable = true ∧ readBp a s = true → t.bpHit = true ∧
      (s.cfg.hitLatchPolicy = .last ∨ s.bpHit = false → t.bpHitAddr = a) ∧
      (s.cfg.hitLatchPolicy = .first ∧ s.bpHit = true → t.bpHitAddr = s.bpHitAddr)) ∧
    (¬ (s.bpEnable = true ∧ readBp a s = true) → t = s) ∧
    t = { s with bpHit := t.bpHit, bpHitAddr := t.bpHitAddr }

/-- WPW_MATCH and WPR_MATCH latch address and type iff wp_enable and the table entry (R198, R199, R201). -/
def Obligations.WatchMatchersLatchAddressAndType : Prop :=
  (∀ (y : Bool) (a : Addr) (s : State), ∃ t, exec (.wpwMatch y a) s = .next t ∧
    (s.wpEnable = true ∧ readWpWrite a s = true → t.wpHit = true ∧
      (s.cfg.hitLatchPolicy = .last ∨ s.wpHit = false → t.wpHitAddr = a ∧ t.wpHitType =
        if s.cfg.wpAccessTypeReport = .bothTables4 ∧ readWpWrite a s = true ∧ readWpRead a s = true then 4 else 2) ∧
      (s.cfg.hitLatchPolicy = .first ∧ s.wpHit = true → t.wpHitAddr = s.wpHitAddr ∧ t.wpHitType = s.wpHitType)) ∧
    (¬ (s.wpEnable = true ∧ readWpWrite a s = true) → t = s) ∧
    t = { s with wpHit := t.wpHit, wpHitAddr := t.wpHitAddr, wpHitType := t.wpHitType }) ∧
  (∀ (a : Addr) (s : State), ∃ t, exec (.wprMatch a) s = .next t ∧
    (s.wpEnable = true ∧ readWpRead a s = true → t.wpHit = true ∧
      (s.cfg.hitLatchPolicy = .last ∨ s.wpHit = false → t.wpHitAddr = a ∧ t.wpHitType =
        if s.cfg.wpAccessTypeReport = .bothTables4 ∧ readWpWrite a s = true ∧ readWpRead a s = true then 4 else 3) ∧
      (s.cfg.hitLatchPolicy = .first ∧ s.wpHit = true → t.wpHitAddr = s.wpHitAddr ∧ t.wpHitType = s.wpHitType)) ∧
    (¬ (s.wpEnable = true ∧ readWpRead a s = true) → t = s) ∧
    t = { s with wpHit := t.wpHit, wpHitAddr := t.wpHitAddr, wpHitType := t.wpHitType })

/-- A cycle that is no SYNC write never latches both a breakpoint and a watchpoint (R211, R285). -/
def Obligations.OneCycleLatchesAtMostOneHit : Prop :=
  ∀ (input : List Byte) (s : State), ¬ ((tick input s).pins.sync = true ∧ (tick input s).pins.rw = false) →
    ((tick input s).bpHit = s.bpHit ∧ (tick input s).bpHitAddr = s.bpHitAddr) ∨
    ((tick input s).wpHit = s.wpHit ∧ (tick input s).wpHitAddr = s.wpHitAddr ∧ (tick input s).wpHitType = s.wpHitType)

/-- bp_hit goes from false to true only in a tick that fetches at an enabled breakpoint (R197, R287). -/
def Obligations.BreakpointHitsOnlyOnFetch : Prop :=
  ∀ (input : List Byte) (s : State),
    (s.bpHit = false → (tick input s).bpHit = true → (tick input s).pins.sync = true ∧ s.bpEnable = true ∧
      readBp (tick input s).pins.addr s = true ∧ (tick input s).bpHitAddr = (tick input s).pins.addr) ∧
    (s.wpHit = false → (tick input s).wpHit = true → s.wpEnable = true ∧
      (tick input s).wpHitAddr = (tick input s).pins.addr ∧
      (((tick input s).pins.rw = false ∧ readWpWrite (tick input s).pins.addr s = true) ∨
       ((tick input s).pins.rw = true ∧ (tick input s).pins.sync = false ∧
         readWpRead (tick input s).pins.addr s = true)))

/-- SET_BP and CLR_BP write one table entry and nothing else (R190, R191). -/
def Obligations.SetAndClearBreakpoint : Prop :=
  (∀ a : Addr, decodeHost { code := 0x10, addr := a } = .ok (.setBp a) ∧ decodeHost { code := 0x11, addr := a } = .ok (.clrBp a)) ∧
  (∀ (a : Addr) (s : State), ∃ t, exec (.setBp a) s = .next t ∧ (∀ b, readBp b t = if b = a then true else readBp b s) ∧
    t = { s with bp := t.bp, result := .none }) ∧
  (∀ (a : Addr) (s : State), ∃ t, exec (.clrBp a) s = .next t ∧ (∀ b, readBp b t = if b = a then false else readBp b s) ∧
    t = { s with bp := t.bp, result := .none })

/-- SET_WP sets the write table (type 2), the read table (3) or both (4); other types are unsupported (R192). -/
def Obligations.SetWatchpointByType : Prop :=
  (∀ (a : Addr) (k : Byte), decodeHost { code := 0x12, addr := a, kind := k } = .ok (.setWp a k)) ∧
  (∀ (a : Addr) (k : Byte) (s : State), ∃ t, exec (.setWp a k) s = .next t ∧
    (∀ b, readWpWrite b t = if b = a ∧ (k = 2 ∨ k = 4) then true else readWpWrite b s) ∧
    (∀ b, readWpRead b t = if b = a ∧ (k = 3 ∨ k = 4) then true else readWpRead b s) ∧
    (k = 2 ∨ k = 3 ∨ k = 4 → t = { s with wpWrite := t.wpWrite, wpRead := t.wpRead, result := .ok }) ∧
    (¬ (k = 2 ∨ k = 3 ∨ k = 4) → t = { s with result := .unsupported }))

/-- CLR_WP clears the write table (type 2), the read table (3) or both (4); other types are unsupported (R193). -/
def Obligations.ClearWatchpointByType : Prop :=
  (∀ (a : Addr) (k : Byte), decodeHost { code := 0x13, addr := a, kind := k } = .ok (.clrWp a k)) ∧
  (∀ (a : Addr) (k : Byte) (s : State), ∃ t, exec (.clrWp a k) s = .next t ∧
    (∀ b, readWpWrite b t = if b = a ∧ (k = 2 ∨ k = 4) then false else readWpWrite b s) ∧
    (∀ b, readWpRead b t = if b = a ∧ (k = 3 ∨ k = 4) then false else readWpRead b s) ∧
    (k = 2 ∨ k = 3 ∨ k = 4 → t = { s with wpWrite := t.wpWrite, wpRead := t.wpRead, result := .ok }) ∧
    (¬ (k = 2 ∨ k = 3 ∨ k = 4) → t = { s with result := .unsupported }))

/-- ENABLE_BP and ENABLE_WP write their enable and nothing else (R195, R196). -/
def Obligations.EnablesWriteOnlyTheirGate : Prop :=
  (∀ b : Bool, decodeHost { code := 0x14, flag := b } = .ok (.enableBp b) ∧ decodeHost { code := 0x15, flag := b } = .ok (.enableWp b)) ∧
  (∀ (b : Bool) (s : State), exec (.enableBp b) s = .next { s with bpEnable := b, result := .none }) ∧
  (∀ (b : Bool) (s : State), exec (.enableWp b) s = .next { s with wpEnable := b, result := .none }) ∧
  (∀ (input : List Byte) (s : State), s.bpEnable = false →
    (tick input s).bpHit = s.bpHit ∧ (tick input s).bpHitAddr = s.bpHitAddr) ∧
  (∀ (input : List Byte) (s : State), s.wpEnable = false →
    (tick input s).wpHit = s.wpHit ∧ (tick input s).wpHitAddr = s.wpHitAddr ∧ (tick input s).wpHitType = s.wpHitType) ∧
  (∀ (input : List Byte) (s : State), s.bpEnable = true → readBp (tick input s).pins.addr s = true →
    (tick input s).pins.sync = true → (tick input s).bpHit = true)

/-- The reading host operations return their value and change nothing (R202, R203, R205, R206, R207, R241, R243, R175,
R260, R264, R325). With the flag false the address and type reads are DEDUCED (log 12). -/
def Obligations.HostReadsReturnTheirField : Prop :=
  (∀ s : State, exec .getBpHit s = .next { s with result := .bool s.bpHit }) ∧
  (∀ s : State, exec .getBpHitAddr s = .next { s with result := .addr s.bpHitAddr }) ∧
  (∀ s : State, exec .getWpHit s = .next { s with result := .bool s.wpHit }) ∧
  (∀ s : State, exec .getWpHitAddr s = .next { s with result := .addr s.wpHitAddr }) ∧
  (∀ s : State, exec .getWpHitType s = .next { s with result := .byte s.wpHitType }) ∧
  (∀ s : State, exec .getTicks s = .next { s with result := .nat s.tickCount }) ∧
  (∀ s : State, exec .getAnchor s = .next { s with result := .addr s.anchor }) ∧
  (∀ s : State, exec .ttyCount s = .next { s with result := .nat s.ttyq.length }) ∧
  (∀ (a : Addr) (s : State), exec (.memRead a) s = .next { s with result := .byte (readMem a s) }) ∧
  (∀ (i : Byte) (s : State), exec (.fbRead i) s = .next { s with result := .byte (readFb i s) })

/-- CLR_BP_HIT and CLR_WP_HIT clear the flag and keep the address and type (R204, R208). -/
def Obligations.ClearHitClearsOnlyTheFlag : Prop :=
  decodeHost { code := 0x18 } = .ok .clrBpHit ∧ decodeHost { code := 0x1C } = .ok .clrWpHit ∧
  (∀ s : State, exec .clrBpHit s = .next { s with bpHit := false, result := .none }) ∧
  (∀ s : State, exec .clrWpHit s = .next { s with wpHit := false, result := .none }) ∧
  (∀ s t : State, exec .clrBpHit s = .next t → exec .getBpHit t = .next { t with result := .bool false }) ∧
  (∀ s t : State, exec .clrWpHit s = .next t → exec .getWpHit t = .next { t with result := .bool false })

/-- INSERT_Z and REMOVE_Z: types 0 and 1 are breakpoints, 2 to 4 watchpoints, others unsupported (R209, R210). -/
def Obligations.InsertAndRemoveByTypeCode : Prop :=
  (∀ (k : Byte) (a : Addr), decodeHost { code := 0x1D, kind := k, addr := a } = .ok (.insertZ k a)) ∧
  (∀ (k : Byte) (a : Addr) (s : State), ∃ t, exec (.insertZ k a) s = .next t ∧
    (k = 0 ∨ k = 1 → (∀ b, readBp b t = if b = a then true else readBp b s) ∧ t = { s with bp := t.bp, result := .ok }) ∧
    (k = 2 ∨ k = 3 ∨ k = 4 → exec (.setWp a k) s = .next t ∧ t.result = .ok) ∧
    (4 < k.toNat → t = { s with result := .unsupported })) ∧
  (∀ (k : Byte) (a : Addr), decodeHost { code := 0x1E, kind := k, addr := a } = .ok (.removeZ k a)) ∧
  (∀ (k : Byte) (a : Addr) (s : State), ∃ t, exec (.removeZ k a) s = .next t ∧
    (k = 0 ∨ k = 1 → (∀ b, readBp b t = if b = a then false else readBp b s) ∧ t = { s with bp := t.bp, result := .ok }) ∧
    (k = 2 ∨ k = 3 ∨ k = 4 → exec (.clrWp a k) s = .next t ∧ t.result = .ok) ∧
    (4 < k.toNat → t = { s with result := .unsupported }))

/-- A detach clears each installed breakpoint and the breakpoint gate and leaves the rest (R213). The request list
hostq is the model's (log 5). -/
def Obligations.DetachClearsBreakpointsAndGate : Prop :=
  ∀ (installed : List Addr) (rest : List HostRequest) (s : State),
    s.hostq = (detachOps installed).filterMap requestOf ++ rest →
    ∃ t, Host.Core.run core (installed.length + 1) s = .next t ∧
      (∀ b, readBp b t = if b ∈ installed then false else readBp b s) ∧
      t = { s with bp := t.bp, bpEnable := false, hostq := rest, result := .none }

/-- No operation but the clear resets a hit flag, and under policy first none moves its address (R212). -/
def Obligations.HitFlagsStayUntilCleared : Prop :=
  ∀ (i : Instr) (s t : State), exec i s = .next t →
    (i ≠ .clrBpHit → s.bpHit = true → t.bpHit = true) ∧ (i ≠ .clrWpHit → s.wpHit = true → t.wpHit = true) ∧
    (s.cfg.hitLatchPolicy = .first → i ≠ .clrBpHit → s.bpHit = true → t.bpHitAddr = s.bpHitAddr) ∧
    (s.cfg.hitLatchPolicy = .first → i ≠ .clrWpHit → s.wpHit = true →
      t.wpHitAddr = s.wpHitAddr ∧ t.wpHitType = s.wpHitType)

/-- TICK runs one tick of the algorithm and returns the pin word (R230, R120, R231, R233). The list inputs of draws is
the model's (log 6). -/
def Obligations.TickOperationReturnsThePins : Prop :=
  (∀ input : List Byte, decodeHost { code := 0x01, bytes := input } = .ok (.tick input)) ∧
  (∀ (input : List Byte) (s : State), ∃ t, exec (.tick input) s = .next t ∧ t.result = .pins t.pins ∧
    t.tickCount = s.tickCount + 1 ∧ t = { tickReference input s with result := t.result }) ∧
  (∀ s : State, tickDrawn s = tickReference (s.inputs.headD []) { s with inputs := s.inputs.tail })

/-- STEP ticks until SYNC (signal 5) or STEP_GUARD ticks without it (signal 4) (R231, R232, R282). The draws of the
ticks are in the model's list inputs (log 6); a guard of 0 acts as 1 (log 10). -/
def Obligations.StepRunsToSyncOrGuard : Prop :=
  ∀ s : State, ∃ (n : Nat) (t : State), exec .step s = .next t ∧ 1 ≤ n ∧ n ≤ max 1 s.cfg.stepGuard ∧
    (∀ m, 1 ≤ m → m < n → (runTicks m s).pins.sync = false) ∧
    (((runTicks n s).pins.sync = true ∧ t = { runTicks n s with result := .signal .sigtrap }) ∨
     ((runTicks n s).pins.sync = false ∧ n = max 1 s.cfg.stepGuard ∧
       t = { runTicks n s with result := .signal .sigill })) ∧
    StopSignal.sigtrap.code = 5 ∧ StopSignal.sigill.code = 4

/-- RUN ticks until a hit latch is set after a tick, or until the budget is used up; the breakpoint is reported first
(R233, R282, R285). The draws of the ticks are in the model's list inputs (log 6); the report as a function of the
state is the model's reading (log 14). -/
def Obligations.RunStopsOnHitOrBudget : Prop :=
  (∀ (budget : Nat) (s : State), ∃ (n : Nat) (stopped : Bool), n ≤ budget ∧
    exec (.run budget) s = .next { runTicks n s with
      result := .run { stopped := stopped, ticks := n, bp := (runTicks n s).bpHit, wp := (runTicks n s).wpHit } } ∧
    (∀ m, 1 ≤ m → m < n → (runTicks m s).bpHit = false ∧ (runTicks m s).wpHit = false) ∧
    (stopped = true ↔ 1 ≤ n ∧ ((runTicks n s).bpHit = true ∨ (runTicks n s).wpHit = true)) ∧
    (stopped = false → n = budget)) ∧
  (∀ (budget : Nat) (s t : State), exec (.run budget) s = .next t →
    (t.bpHit = true → t.wpHit = true →
      stopReports t = [.breakpoint 5 t.bpHitAddr, .watchpoint t.wpHitAddr t.wpHitType]) ∧
    (t.bpHit = true → t.wpHit = false → stopReports t = [.breakpoint 5 t.bpHitAddr]) ∧
    (t.bpHit = false → t.wpHit = true → stopReports t = [.watchpoint t.wpHitAddr t.wpHitType]) ∧
    (t.bpHit = false → t.wpHit = false → stopReports t = []))

/-- RESET: TTY_RESET, ROM reload if configured, one tick with RES = 1, then RES = 0 (R234, R173, R236). -/
def Obligations.ResetRunsItsSequence : Prop :=
  (∀ input : List Byte, decodeHost { code := 0x04, bytes := input } = .ok (.reset input)) ∧
  ∀ (input : List Byte) (s : State), s.cfg.romImage.length ≤ 0x3000 → ∃ v t : State,
    v = { s with ttyq := [], mem := v.mem, pins := { s.pins with res := true } } ∧
    (∀ b : Addr, readMem b v =
      if s.cfg.reloadRomOnReset = true ∧ 0xD000 ≤ b.toNat ∧ b.toNat < 0xD000 + s.cfg.romImage.length
      then s.cfg.romImage.getD (b.toNat - 0xD000) 0
      else if b = 0x00FF then readMem b s &&& 0xFD else readMem b s) ∧
    exec (.reset input) s = .next t ∧
    t = { tickReference input v with
          pins := { (tickReference input v).pins with res := false }, result := .none }

/-- RESET keeps the debug tables, the enables and the counter's history, and empties the queue (R46, R234, R326). -/
def Obligations.ResetKeepsWhatTheTableKeeps : Prop :=
  ∀ (input : List Byte) (s t : State), exec (.reset input) s = .next t →
    t.bp = s.bp ∧ t.wpWrite = s.wpWrite ∧ t.wpRead = s.wpRead ∧ t.bpEnable = s.bpEnable ∧ t.wpEnable = s.wpEnable ∧
    t.cfg = s.cfg ∧ t.tickCount = s.tickCount + 1 ∧ t.pins.res = false ∧
    t.ttyq = (if t.pins.rw = true ∧ t.pins.addr = 0xC103 then input.tail else input) ∧
    (s.bpHit = true → t.bpHit = true) ∧ (s.wpHit = true → t.wpHit = true) ∧
    (∀ b : Addr, b ≠ 0x00FF → (s.cfg.reloadRomOnReset = false ∨ b.toNat < 0xD000) →
      ¬ (t.pins.rw = false ∧ t.pins.addr = b) → readMem b t = readMem b s)

/-- LOAD_ROM stores an image of at most 0x3000 bytes from 0xD000 and refuses a longer one (R236). -/
def Obligations.LoadRomStoresTheImage : Prop :=
  (∀ image : List Byte, decodeHost { code := 0x05, bytes := image } = .ok (.loadRom image)) ∧
  (∀ (image : List Byte) (s : State), 0x3000 < image.length → exec (.loadRom image) s = .next { s with result := .refused }) ∧
  (∀ (image : List Byte) (s : State), image.length ≤ 0x3000 → ∃ t, exec (.loadRom image) s = .next t ∧
    (∀ b : Addr, readMem b t = if 0xD000 ≤ b.toNat ∧ b.toNat < 0xD000 + image.length
      then image.getD (b.toNat - 0xD000) 0 else readMem b s) ∧
    t = { s with mem := t.mem, result := .ok }) ∧
  (∀ (cfg : Config) (init : CpuState × Pins) (t : State), cfg.romImage.length ≤ 0x3000 →
    exec (.loadRom cfg.romImage) { powerOn cfg init with mem := [] } = .next t → (powerOn cfg init).mem = t.mem)

/-- ANCHOR_REALIGN arms the anchor; a tick takes it at the first cycle whose address is the PC (R240, R242, R243). -/
def Obligations.AnchorOperationsAndUpdate : Prop :=
  decodeHost { code := 0x07 } = .ok .anchorRealign ∧
  (∀ s : State, exec .anchorRealign s = .next { s with anchorArmed := true, result := .none }) ∧
  (∀ (input : List Byte) (s : State),
    ((tick input s).pins.sync = true ∨ s.anchorArmed = true) ∧ (tick input s).pins.addr = cpuPC s.cpu →
      (tick input s).anchor = (tick input s).pins.addr ∧ (tick input s).anchorArmed = false) ∧
  (∀ (input : List Byte) (s : State),
    ¬ (((tick input s).pins.sync = true ∨ s.anchorArmed = true) ∧ (tick input s).pins.addr = cpuPC s.cpu) →
      (tick input s).anchor = s.anchor ∧
      ((tick input s).anchorArmed = true ↔ (tick input s).pins.sync = true ∨ s.anchorArmed = true))

/-- MEM_WRITE stores one byte of mem, and of fb only under the mirror parameter (R261). -/
def Obligations.HostWriteStoresWithMirror : Prop :=
  (∀ (a : Addr) (d : Byte), decodeHost { code := 0x21, addr := a, value := d } = .ok (.memWrite a d)) ∧
  (∀ (a : Addr) (d : Byte) (s : State), ∃ t, exec (.memWrite a d) s = .next t ∧
    (∀ b, readMem b t = if b = a then d else readMem b s) ∧
    (∀ j : Byte, readFb j t =
      if s.cfg.hostWriteFbMirror = true ∧ a.toNat = 0xC000 + j.toNat then d else readFb j s) ∧
    t = { s with mem := t.mem, fb := t.fb, result := .none }) ∧
  (∀ (input : List Byte) (d : Byte) (s t : State), exec (.memWrite 0x00FF d) s = .next t →
    readMem 0x00FF (tickToAccess input t) = (if s.ttyq ++ input = [] then 0x00 else 0x02) ∧
    (tick input t).pins.irq = irqEncode s.cfg.irqPinPolarity (decide (s.ttyq ++ input ≠ [])) ∧
    (tick input t).pins.irq = (tick input s).pins.irq)

/-- MEM_READ_BLOCK returns the bytes of the range, or range_error past 0xFFFF (R262). -/
def Obligations.HostBlockReadReturnsTheRange : Prop :=
  (∀ (a : Addr) (n : Nat), decodeHost { code := 0x22, addr := a, count := n } = .ok (.memReadBlock a n)) ∧
  (∀ (a : Addr) (n : Nat) (s : State), 0x10000 < a.toNat + n →
    exec (.memReadBlock a n) s = .next { s with result := .rangeError }) ∧
  (∀ (a : Addr) (n : Nat) (s : State), a.toNat + n ≤ 0x10000 → ∃ l : List Byte,
    exec (.memReadBlock a n) s = .next { s with result := .bytes l } ∧ l.length = n ∧
    ∀ i : Nat, i < n → l[i]? = some (readMem (BitVec.ofNat 16 (a.toNat + i)) s)) ∧
  (∀ (a : Addr) (s : State), exec (.memReadBlock a 0) s = .next { s with result := .bytes [] })

/-- MEM_WRITE_BLOCK stores the bytes of the range, or nothing past 0xFFFF (R263). -/
def Obligations.HostBlockWriteStoresTheRange : Prop :=
  (∀ (a : Addr) (bs : List Byte), decodeHost { code := 0x23, addr := a, bytes := bs } = .ok (.memWriteBlock a bs)) ∧
  (∀ (a : Addr) (bs : List Byte) (s : State), 0x10000 < a.toNat + bs.length →
    exec (.memWriteBlock a bs) s = .next { s with result := .rangeError }) ∧
  (∀ (a : Addr) (bs : List Byte) (s : State), a.toNat + bs.length ≤ 0x10000 → ∃ t,
    exec (.memWriteBlock a bs) s = .next t ∧
    (∀ b : Addr, readMem b t = if a.toNat ≤ b.toNat ∧ b.toNat < a.toNat + bs.length
      then bs.getD (b.toNat - a.toNat) 0 else readMem b s) ∧
    (∀ j : Byte, readFb j t =
      if s.cfg.hostWriteFbMirror = true ∧ a.toNat ≤ 0xC000 + j.toNat ∧ 0xC000 + j.toNat < a.toNat + bs.length
      then bs.getD (0xC000 + j.toNat - a.toNat) 0 else readFb j s) ∧
    t = { s with mem := t.mem, fb := t.fb, result := .ok })

/-- FB_WRITE stores one frame-buffer byte only, and a CPU read of it returns that byte (R265). -/
def Obligations.FrameBufferPresetSeenByCpu : Prop :=
  (∀ (i d : Byte), decodeHost { code := 0x25, index := i, value := d } = .ok (.fbWrite i d)) ∧
  (∀ (i d : Byte) (s : State), ∃ t, exec (.fbWrite i d) s = .next t ∧
    (∀ j, readFb j t = if j = i then d else readFb j s) ∧ t = { s with fb := t.fb, result := .none }) ∧
  (∀ (i d : Byte) (input : List Byte) (s t : State), exec (.fbWrite i d) s = .next t →
    (tick input t).pins.rw = true → (tick input t).pins.addr = fbAddr i → (tick input t).pins.data = d) ∧
  (∀ (i : Byte) (input : List Byte) (s : State), (tick input s).pins.rw = false → (tick input s).pins.addr = fbAddr i →
    readMem (fbAddr i) (tick input s) = readFb i (tick input s))

/-- TTY_INJECT appends the byte and sets IRQ cell bit 1; the line waits for the next tick (R174). -/
def Obligations.InjectAppendsAndSetsTheBit : Prop :=
  (∀ b : Byte, decodeHost { code := 0x30, value := b } = .ok (.ttyInject b)) ∧
  (∀ (b : Byte) (s : State), ∃ t, exec (.ttyInject b) s = .next t ∧ t.ttyq = s.ttyq ++ [b] ∧
    (∀ a, readMem a t = if a = 0x00FF then readMem a s ||| 0x02 else readMem a s) ∧
    t = { s with ttyq := t.ttyq, mem := t.mem, result := .none }) ∧
  (∀ (b : Byte) (input : List Byte) (s t : State), exec (.ttyInject b) s = .next t →
    readMem 0x00FF (tickToAccess input t) = 0x02)

/-- TTY_RESET empties the queue and clears IRQ cell bit 1 only (R173). -/
def Obligations.TtyResetEmptiesTheQueue : Prop :=
  decodeHost { code := 0x31 } = .ok .ttyReset ∧
  (∀ s : State, ∃ t, exec .ttyReset s = .next t ∧ t.ttyq = [] ∧
    (∀ a, readMem a t = if a = 0x00FF then readMem a s &&& 0xFD else readMem a s) ∧
    t = { s with ttyq := [], mem := t.mem, result := .none }) ∧
  (∀ (input : List Byte) (s t : State), exec .ttyReset s = .next t →
    (tick input t).pins.irq = irqEncode s.cfg.irqPinPolarity (decide (input ≠ []))) ∧
  (∀ (input : List Byte) (s t : State), s.mem.wf memSize = true → exec .ttyReset s = .next t →
    exec (.reset input) t = exec (.reset input) s)

/-- After a tick the cell is 0x02 or 0x00 by the queue, except after a write of it; the line is that of the pump
(R178, R177). -/
def Obligations.IrqCellAndLineAfterATick : Prop :=
  (∀ (input : List Byte) (s : State),
    readMem 0x00FF (tick input s) =
      (if (tick input s).pins.rw = false ∧ (tick input s).pins.addr = 0x00FF then (tick input s).pins.data
       else if (tick input s).ttyq = [] then 0x00 else 0x02) ∧
    (tick input s).pins.irq = irqEncode s.cfg.irqPinPolarity (irqCell (tickToAccess input s) != 0x00) ∧
    (irqCell (tickToAccess input s) ≠ 0x00 ↔ s.ttyq ++ input ≠ [])) ∧
  (irqEncode .pendingAsserts true = true ∧ irqEncode .pendingAsserts false = false ∧
    irqEncode .legacyInverted true = false ∧ irqEncode .legacyInverted false = true) ∧
  (∀ (input later : List Byte) (s : State),
    (tick later (tick input s)).cpu = (cpuTick (tick input s).cpu (tick input s).pins).1)

/-- The pin word of one tick is what drives the CPU in the next, so the line lags one tick (R318, R177, R284). The
field cpu.seen, the record of the pin words the CPU was driven with, is the model's (log 1). -/
def Obligations.CpuSeesTheLineOneTickLater : Prop :=
  ∀ (in1 in2 : List Byte) (s : State),
    (tick in2 (tick in1 s)).cpu.seen = s.cpu.seen ++ [s.pins, (tick in1 s).pins] ∧
    (tick in1 s).pins.irq = irqEncode s.cfg.irqPinPolarity (decide (s.ttyq ++ in1 ≠ [])) ∧
    (tick in1 s).pins.nmi = false

/-- On a read the CPU sees the overlay where one claims the address, else mem; on a write DATA is unchanged (R121). -/
def Obligations.DataBusShowsOverlayElseMemory : Prop :=
  ∀ (input : List Byte) (s : State),
    ((cpuTick s.cpu s.pins).2.rw = true → (tick input s).pins.data =
      match regionOf (cpuTick s.cpu s.pins).2.addr with
      | .frameBuffer => readFb (((cpuTick s.cpu s.pins).2.addr - 0xC000).setWidth 8) s
      | .tty =>
        if (cpuTick s.cpu s.pins).2.addr = 0xC101 then 0xFF
        else if (cpuTick s.cpu s.pins).2.addr = 0xC102 then (if s.ttyq ++ input = [] then 0x00 else 0x01)
        else if (cpuTick s.cpu s.pins).2.addr = 0xC103 then (s.ttyq ++ input).headD 0x00
        else 0x00
      | .irqCell => if s.ttyq ++ input = [] then 0x00 else 0x02
      | .ram => readMem (cpuTick s.cpu s.pins).2.addr s) ∧
    ((cpuTick s.cpu s.pins).2.rw = false → (tick input s).pins.data = (cpuTick s.cpu s.pins).2.data)

/-- A tick stores the written byte and nothing else, whatever the region (R66, R67, R120, R131, R135, R165). -/
def Obligations.TickStoresOnlyItsCycle : Prop :=
  ∀ (input : List Byte) (s : State),
    (∀ b : Addr, b ≠ 0x00FF → readMem b (tick input s) =
      if (cpuTick s.cpu s.pins).2.rw = false ∧ b = (cpuTick s.cpu s.pins).2.addr then (cpuTick s.cpu s.pins).2.data
      else readMem b s) ∧
    (∀ j : Byte, readFb j (tick input s) =
      if (cpuTick s.cpu s.pins).2.rw = false ∧ (cpuTick s.cpu s.pins).2.addr.toNat = 0xC000 + j.toNat
      then (cpuTick s.cpu s.pins).2.data else readFb j s) ∧
    (tick input s).ttyOut = s.ttyOut ++
      (if (cpuTick s.cpu s.pins).2.rw = false ∧ (cpuTick s.cpu s.pins).2.addr = 0xC101
       then [(cpuTick s.cpu s.pins).2.data] else [])

/-- The block writes DATA on reads, IRQ and NMI, and RES in RESET; every other pin passes through (R125). That RES
passes through a tick outside a RESET is the model's reading, beside R28 and R284 (log 9, DEDUCED). -/
def Obligations.BlockWritesOnlyItsPins : Prop :=
  (∀ (input : List Byte) (s : State),
    (tick input s).pins = { (cpuTick s.cpu s.pins).2 with
      data := (tick input s).pins.data, irq := (tick input s).pins.irq, nmi := (tick input s).pins.nmi } ∧
    ((cpuTick s.cpu s.pins).2.rw = false → (tick input s).pins.data = (cpuTick s.cpu s.pins).2.data)) ∧
  (∀ (input : List Byte) (s t : State), exec (.reset input) s = .next t →
    t.pins = { (cpuTick s.cpu { s.pins with res := true }).2 with
      data := t.pins.data, irq := t.pins.irq, nmi := t.pins.nmi, res := false }) ∧
  (∀ (later : List Byte) (s : State), (tick later s).cpu = (cpuTick s.cpu s.pins).1)

/-- A byte written to RAM or the frame buffer in one tick is read in the next (R73, R77, R327). -/
def Obligations.WriteIsReadBackNextTick : Prop :=
  ∀ (in1 in2 : List Byte) (s : State) (a : Addr), (Addr.isRam a = true ∨ inFbRange a = true) →
    (tick in1 s).pins.rw = false → (tick in1 s).pins.addr = a →
    (tick in2 (tick in1 s)).pins.rw = true → (tick in2 (tick in1 s)).pins.addr = a →
    (tick in2 (tick in1 s)).pins.data = (tick in1 s).pins.data

/-- No bus cycle changes the debug tables, enables, latches, counter, anchor, CPU or configuration (R290, R43). -/
def Obligations.BusCyclesCannotReachHostState : Prop :=
  (∀ (i : Instr) (s t : State), i.port = .bus → exec i s = .next t →
    sameHostOnly s t ∧ t.cpu = s.cpu ∧ t.cfg = s.cfg ∧ t.inputs = s.inputs ∧ t.hostq = s.hostq ∧ t.result = s.result) ∧
  (∀ (i : Instr) (s t : State), i.port = .debug → exec i s = .next t →
    t.mem = s.mem ∧ t.fb = s.fb ∧ t.ttyq = s.ttyq ∧ t.ttyOut = s.ttyOut ∧ t.pins = s.pins ∧ t.cpu = s.cpu ∧ t.cfg = s.cfg)

/-- Bytes enter the queue at the back in order; only an in-data read removes one, and the resets all (R179). For STEP
and RUN the draws are in the model's list inputs, a choice of the model (log 6). -/
def Obligations.QueueIsFirstInFirstOut : Prop :=
  ∀ (i : Instr) (s t : State), exec i s = .next t →
    match i with
    | .rdTtyIdata _ => t.ttyq = s.ttyq.tail
    | .ttyReset => t.ttyq = []
    | .ttyInject b => t.ttyq = s.ttyq ++ [b]
    | .tick input =>
      t.ttyq = if t.pins.rw = true ∧ t.pins.addr = 0xC103 then (s.ttyq ++ input).tail else s.ttyq ++ input
    | .reset input => t.ttyq = if t.pins.rw = true ∧ t.pins.addr = 0xC103 then input.tail else input
    | .step | .run _ => ∃ n, t = { runTicks n s with result := t.result } ∧ t.tickCount = s.tickCount + n ∧
      t.inputs = s.inputs.drop n ∧ ∀ m, m < n → (runTicks (m + 1) s).ttyq =
        if (runTicks (m + 1) s).pins.rw = true ∧ (runTicks (m + 1) s).pins.addr = 0xC103
        then ((runTicks m s).ttyq ++ s.inputs.getD m []).tail else (runTicks m s).ttyq ++ s.inputs.getD m []
    | _ => t.ttyq = s.ttyq

/-- No step removes a byte from the output sink or lowers the tick counter (R26, R35, R241). -/
def Obligations.OutputAndCounterOnlyGrow : Prop :=
  (∀ s t : State, step s = .next t → s.ttyOut <+: t.ttyOut ∧ s.tickCount ≤ t.tickCount) ∧
  ∀ (i : Instr) (s t : State), i.port = .host → exec i s = .next t →
    (∀ input, i ≠ .tick input) → i ≠ .step → (∀ n, i ≠ .run n) → (∀ input, i ≠ .reset input) →
    t.ttyOut = s.ttyOut ∧ t.tickCount = s.tickCount ∧ t.pins = s.pins ∧ t.cpu = s.cpu

/-- No step changes a parameter (R38). -/
def Obligations.ConfigurationNeverChanges : Prop :=
  ∀ s t : State, step s = .next t → t.cfg = s.cfg

/-- Every step keeps the arrays canonical, the watch type legal and NMI low (10_state R23, R25, R29, R32, R34, R201,
R284). The canonical form is the model's representation of the arrays (log 11). -/
def Obligations.EveryStepKeepsTheInvariant : Prop :=
  ∀ s t : State, s.Inv → step s = .next t → t.Inv

/-- The state after power-on meets the invariant (10_state R44, R34). The canonical form is the model's representation
of the arrays (log 11); State.reset rests on log 2 and log 3. -/
def Obligations.ResetStateMeetsTheInvariant : Prop :=
  State.reset.Inv ∧ ∀ (cfg : Config) (init : CpuState × Pins), (powerOn cfg init).Inv

/-- The power-on state of every configuration is the table of R44 (R44). -/
def Obligations.PowerOnStateIsAsTabled : Prop :=
  ∀ (cfg : Config) (init : CpuState × Pins), cfg.romImage.length ≤ 0x3000 →
    (∀ b : Addr, readMem b (powerOn cfg init) =
      if 0xD000 ≤ b.toNat ∧ b.toNat < 0xD000 + cfg.romImage.length then cfg.romImage.getD (b.toNat - 0xD000) 0 else 0x00) ∧
    (∀ j, readFb j (powerOn cfg init) = 0x00) ∧ (powerOn cfg init).ttyq = [] ∧ (powerOn cfg init).ttyOut = [] ∧
    (powerOn cfg init).pins = { init.2 with irq := irqEncode cfg.irqPinPolarity false, nmi := false } ∧
    (powerOn cfg init).cpu = init.1 ∧
    (∀ b, readBp b (powerOn cfg init) = false ∧ readWpWrite b (powerOn cfg init) = false ∧
      readWpRead b (powerOn cfg init) = false) ∧
    (powerOn cfg init).bpEnable = false ∧ (powerOn cfg init).wpEnable = false ∧
    (powerOn cfg init).bpHit = false ∧ (powerOn cfg init).wpHit = false ∧
    (powerOn cfg init).bpHitAddr = 0x0000 ∧ (powerOn cfg init).wpHitAddr = 0x0000 ∧ (powerOn cfg init).wpHitType = 0 ∧
    (powerOn cfg init).tickCount = 0 ∧ (powerOn cfg init).anchor = 0x0000 ∧ (powerOn cfg init).anchorArmed = true

/-- Two host writes of the vector bytes set the reset target, low byte at 0xFFFC (R62, R261, R310). -/
def Obligations.ResetVectorIsLittleEndian : Prop :=
  ∀ (lo hi : Byte) (s t u : State), exec (.memWrite 0xFFFC lo) s = .next t → exec (.memWrite 0xFFFD hi) t = .next u →
    resetTarget u = lo.setWidth 16 ||| (hi.setWidth 16 <<< 8) ∧
    (∀ input, (tick input u).pins.rw = true → (tick input u).pins.addr = 0xFFFC → (tick input u).pins.data = lo) ∧
    (∀ input, (tick input u).pins.rw = true → (tick input u).pins.addr = 0xFFFD → (tick input u).pins.data = hi)
end

