-- ==== Sys2Proof/Laws/Decode.lean ====
section
/-! SUPPORT. The laws of the cycle key and of the masks of the decode tables (30_encoding R91, R93, R97). -/

namespace Sys2Proof

/-- Every bit of a key (R91). -/
theorem getLsbD_mkKey (y w : Bool) (a : Addr) (i : Nat) :
    (mkKey y w a).getLsbD i = if i < 16 then a.getLsbD i else if i = 16 then w else if i = 17 then y else false := by
  show BitVec.getLsbD (w := 1 + 1 + 16) (BitVec.ofBool y ++ BitVec.ofBool w ++ a) i = _
  rw [BitVec.getLsbD_append, BitVec.getLsbD_append]
  by_cases h : i < 16
  · simp [h]
  · by_cases h16 : i = 16
    · subst h16; cases w <;> rfl
    · by_cases h17 : i = 17
      · subst h17; cases y <;> rfl
      · have : 1 ≤ i - 17 := by omega
        simp [h, h16, h17, show ¬(i - 16 < 1) by omega, BitVec.getLsbD_of_ge _ (i - 16 - 1) (show 1 ≤ i - 16 - 1 by omega)]

@[simp] theorem keySync_mkKey (y w : Bool) (a : Addr) : keySync (mkKey y w a) = y := by
  rw [keySync, getLsbD_mkKey]; rfl

@[simp] theorem keyRw_mkKey (y w : Bool) (a : Addr) : keyRw (mkKey y w a) = w := by
  rw [keyRw, getLsbD_mkKey]; rfl

@[simp] theorem keyAddr_mkKey (y w : Bool) (a : Addr) : keyAddr (mkKey y w a) = a := by
  apply BitVec.eq_of_getLsbD_eq
  intro i hi
  rw [keyAddr, BitVec.getLsbD_extractLsb', Nat.zero_add, getLsbD_mkKey, if_pos hi]
  simp [hi]

@[simp] theorem mkKey_fields (k : CycleKey) : mkKey (keySync k) (keyRw k) (keyAddr k) = k := by
  apply BitVec.eq_of_getLsbD_eq
  intro i hi
  rw [getLsbD_mkKey]
  by_cases h : i < 16
  · rw [if_pos h, keyAddr, BitVec.getLsbD_extractLsb', Nat.zero_add]; simp [h]
  · have : i = 16 ∨ i = 17 := by omega
    rcases this with rfl | rfl <;> rfl

theorem mkKey_inj {y y' w w' : Bool} {a a' : Addr} : mkKey y w a = mkKey y' w' a' ↔ y = y' ∧ w = w' ∧ a = a' := by
  constructor
  · intro h
    refine ⟨?_, ?_, ?_⟩
    · simpa using congrArg keySync h
    · simpa using congrArg keyRw h
    · simpa using congrArg keyAddr h
  · rintro ⟨rfl, rfl, rfl⟩; rfl

theorem mkKey_and (y w y' w' : Bool) (a a' : Addr) :
    mkKey y w a &&& mkKey y' w' a' = mkKey (y && y') (w && w') (a &&& a') := by
  apply BitVec.eq_of_getLsbD_eq
  intro i hi
  rw [BitVec.getLsbD_and]
  simp only [getLsbD_mkKey, BitVec.getLsbD_and]
  by_cases h : i < 16
  · simp [h]
  · have : i = 16 ∨ i = 17 := by omega
    rcases this with rfl | rfl <;> simp

/-- A row whose mask and pattern are keys applies field by field. -/
theorem applies_mkKey (y w ym wm yp wp : Bool) (a am ap : Addr) (f : Bool → Bool → Addr → Byte → Instr) :
    (CycleRow.mk (mkKey ym wm am) (mkKey yp wp ap) f).applies (mkKey y w a) =
      (((y && ym) == yp) && ((w && wm) == wp) && ((a &&& am) == ap)) := by
  simp only [CycleRow.applies, mkKey_and]
  rw [Bool.eq_iff_iff]
  simp only [beq_iff_eq, Bool.and_eq_true, mkKey_inj, and_assoc]

/-! ### The router's table, row by row -/

/-- R93 with every mask and pattern split into its SYNC, RW and ADDR parts. -/
theorem decodeBus_mkKey (y w : Bool) (a : Addr) (d : Byte) :
    decodeBus (mkKey y w a) d = .ok (
      if a &&& 0xFF00 = 0xC000 then (if w then .rdFb y (fbIndex a) else .wrFb y (fbIndex a) d)
      else if a = 0xC100 then (if w then .rdTtyOstat y else .wrTtyOstat y d)
      else if a = 0xC101 then (if w then .rdTtyOdata y else .wrTtyOdata y d)
      else if a = 0xC102 then (if w then .rdTtyIstat y else .wrTtyIstat y d)
      else if a = 0xC103 then (if w then .rdTtyIdata y else .wrTtyIdata y d)
      else if a &&& 0xFFF0 = 0xC100 then (if w then .rdTtyRsvd y (ttyIndex a) else .wrTtyRsvd y (ttyIndex a) d)
      else if a = 0x00FF then (if w then .rdIrqcell y else .wrIrqcell y d)
      else if w then .rdRam y a else .wrRam y a d) := by
  have full : ∀ b : Addr, b &&& 0xFFFF = b := fun b => by
    simpa using (BitVec.and_allOnes (x := b))
  have key : ∀ (wm wp : Bool) (am ap : Addr) (m p : CycleKey) (f : Bool → Bool → Addr → Byte → Instr),
      m = mkKey false wm am → p = mkKey false wp ap →
      (CycleRow.mk m p f).applies (mkKey y w a) = (((w && wm) == wp) && ((a &&& am) == ap)) := by
    rintro wm wp am ap m p f rfl rfl
    rw [applies_mkKey]; simp
  simp only [decodeBus, busRows, List.find?_cons,
    key true true 0xFF00 0xC000 0x1FF00 0x1C000 _ (by decide) (by decide),
    key true false 0xFF00 0xC000 0x1FF00 0x0C000 _ (by decide) (by decide),
    key true true 0xFFFF 0xC100 0x1FFFF 0x1C100 _ (by decide) (by decide),
    key true false 0xFFFF 0xC100 0x1FFFF 0x0C100 _ (by decide) (by decide),
    key true true 0xFFFF 0xC101 0x1FFFF 0x1C101 _ (by decide) (by decide),
    key true false 0xFFFF 0xC101 0x1FFFF 0x0C101 _ (by decide) (by decide),
    key true true 0xFFFF 0xC102 0x1FFFF 0x1C102 _ (by decide) (by decide),
    key true false 0xFFFF 0xC102 0x1FFFF 0x0C102 _ (by decide) (by decide),
    key true true 0xFFFF 0xC103 0x1FFFF 0x1C103 _ (by decide) (by decide),
    key true false 0xFFFF 0xC103 0x1FFFF 0x0C103 _ (by decide) (by decide),
    key true true 0xFFF0 0xC100 0x1FFF0 0x1C100 _ (by decide) (by decide),
    key true false 0xFFF0 0xC100 0x1FFF0 0x0C100 _ (by decide) (by decide),
    key true true 0xFFFF 0x00FF 0x1FFFF 0x100FF _ (by decide) (by decide),
    key true false 0xFFFF 0x00FF 0x1FFFF 0x000FF _ (by decide) (by decide),
    key true true 0 0 0x10000 0x10000 _ (by decide) (by decide),
    key true false 0 0 0x10000 0x00000 _ (by decide) (by decide), full]
  cases w <;>
  simp only [Bool.and_true, Bool.false_and, Bool.true_and, beq_self_eq_true, show (false == true) = false from rfl,
    show (true == false) = false from rfl]
  all_goals
    clear key full
    by_cases h1 : a &&& 65280#16 = 49152#16
    · simp [h1, CycleRow.instr]
    by_cases h2 : a = 49408#16
    · simp [h2, CycleRow.instr]
    by_cases h3 : a = 49409#16
    · simp [h3, CycleRow.instr]
    by_cases h4 : a = 49410#16
    · simp [h4, CycleRow.instr]
    by_cases h5 : a = 49411#16
    · simp [h5, CycleRow.instr]
    by_cases h6 : a &&& 65520#16 = 49408#16
    · simp [beq_eq_false_iff_ne.mpr h1, beq_eq_false_iff_ne.mpr h2, beq_eq_false_iff_ne.mpr h3,
        beq_eq_false_iff_ne.mpr h4, beq_eq_false_iff_ne.mpr h5, h1, h2, h3, h4, h5, h6, CycleRow.instr]
    by_cases h7 : a = 255#16
    · simp [h7, CycleRow.instr]
    simp [beq_eq_false_iff_ne.mpr h1, beq_eq_false_iff_ne.mpr h2, beq_eq_false_iff_ne.mpr h3,
      beq_eq_false_iff_ne.mpr h4, beq_eq_false_iff_ne.mpr h5, beq_eq_false_iff_ne.mpr h6,
      beq_eq_false_iff_ne.mpr h7, h1, h2, h3, h4, h5, h6, h7, CycleRow.instr]

/-- Every key is `mkKey` of its fields, so `decodeBus_mkKey` covers every key. -/
theorem decodeBus_eq (k : CycleKey) (d : Byte) :
    decodeBus k d = decodeBus (mkKey (keySync k) (keyRw k) (keyAddr k)) d := by rw [mkKey_fields]

/-- R97, row by row. -/
theorem decodeDebug_mkKey (y w : Bool) (a : Addr) :
    decodeDebug (mkKey y w a) =
      (if y then [.bpMatch w a] else []) ++ (if w then [] else [.wpwMatch y a]) ++
        (if w && !y then [.wprMatch a] else []) := by
  have key : ∀ (ym wm yp wp : Bool) (m p : CycleKey) (f : Bool → Bool → Addr → Byte → Instr),
      m = mkKey ym wm 0 → p = mkKey yp wp 0 →
      (CycleRow.mk m p f).applies (mkKey y w a) = (((y && ym) == yp) && ((w && wm) == wp)) := by
    rintro ym wm yp wp m p f rfl rfl
    rw [applies_mkKey]; simp
  simp only [decodeDebug, debugRows, List.filter_cons,
    key true false true false 0x20000 0x20000 _ (by decide) (by decide),
    key false true false false 0x10000 0x00000 _ (by decide) (by decide),
    key true true false true 0x30000 0x10000 _ (by decide) (by decide)]
  clear key
  cases y <;> cases w <;> simp [CycleRow.instr]

end Sys2Proof
end

