-- ==== Sys2Proof/Laws/Sparse.lean ====
section
/-! SUPPORT. The laws of the sparse arrays: a read after a write, and the canonical form kept by every operation. -/

namespace Sys2Proof.Machine

section
variable {α : Type}

@[simp] theorem Sparse.read_nil (d : α) (a : Nat) : Sparse.read d [] a = d := rfl

theorem Sparse.read_cons (d : α) (k : Nat) (v : α) (m : Sparse α) (a : Nat) :
    Sparse.read d ((k, v) :: m) a = if a = k then v else Sparse.read d m a := rfl

theorem Sparse.erase_cons (k : Nat) (v : α) (m : Sparse α) (a : Nat) :
    Sparse.erase ((k, v) :: m) a = if k = a then Sparse.erase m a else (k, v) :: Sparse.erase m a := by
  by_cases h : k = a <;> simp [Sparse.erase, h]

theorem Sparse.read_erase (d : α) (m : Sparse α) (a b : Nat) :
    Sparse.read d (Sparse.erase m a) b = if b = a then d else Sparse.read d m b := by
  induction m with
  | nil => simp [Sparse.erase]
  | cons c m ih =>
    obtain ⟨k, v⟩ := c
    rw [Sparse.erase_cons]
    by_cases hk : k = a
    · rw [if_pos hk, ih, Sparse.read_cons]; grind
    · rw [if_neg hk, Sparse.read_cons, Sparse.read_cons, ih]; grind

theorem Sparse.read_insert_erased (d : α) (v : α) (m : Sparse α) (a b : Nat) :
    Sparse.read d (Sparse.insert a v (Sparse.erase m a)) b = if b = a then v else Sparse.read d m b := by
  induction m with
  | nil => simp [Sparse.erase, Sparse.insert, Sparse.read]
  | cons c m ih =>
    obtain ⟨k, w⟩ := c
    rw [Sparse.erase_cons]
    by_cases hk : k = a
    · rw [if_pos hk, ih, Sparse.read_cons]; grind
    · rw [if_neg hk, Sparse.insert]
      split
      · rw [Sparse.read_cons, Sparse.read_cons, Sparse.read_cons, Sparse.read_erase]; grind
      · rw [Sparse.read_cons, Sparse.read_cons, ih]; grind

/-- What a write does to every entry; it needs no canonical form. -/
@[simp] theorem Sparse.read_write [DecidableEq α] (d : α) (m : Sparse α) (a : Nat) (v : α) (b : Nat) :
    Sparse.read d (Sparse.write d m a v) b = if b = a then v else Sparse.read d m b := by
  unfold Sparse.write
  split
  · next h => subst h; exact Sparse.read_erase _ m a b
  · exact Sparse.read_insert_erased d v m a b

/-! ### The canonical form -/

variable [DecidableEq α]

@[simp] theorem Sparse.wfFrom_nil (d : α) (size lo : Nat) : Sparse.wfFrom d size lo [] = true := rfl

theorem Sparse.wfFrom_cons (d : α) (size lo k : Nat) (v : α) (m : Sparse α) :
    Sparse.wfFrom d size lo ((k, v) :: m) = true ↔
      lo ≤ k ∧ k < size ∧ v ≠ d ∧ Sparse.wfFrom d size (k + 1) m = true := by
  simp [Sparse.wfFrom, and_assoc]

theorem Sparse.wfFrom_mono {d : α} {size lo lo' : Nat} {m : Sparse α} (h : lo' ≤ lo)
    (hm : Sparse.wfFrom d size lo m = true) : Sparse.wfFrom d size lo' m = true := by
  cases m with
  | nil => rfl
  | cons c m =>
    obtain ⟨k, v⟩ := c
    rw [Sparse.wfFrom_cons] at hm ⊢
    exact ⟨h.trans hm.1, hm.2⟩

theorem Sparse.wfFrom_erase {d : α} {size : Nat} (a : Nat) {lo : Nat} {m : Sparse α}
    (hm : Sparse.wfFrom d size lo m = true) : Sparse.wfFrom d size lo (Sparse.erase m a) = true := by
  induction m generalizing lo with
  | nil => rfl
  | cons c m ih =>
    obtain ⟨k, v⟩ := c
    rw [Sparse.wfFrom_cons] at hm
    rw [Sparse.erase_cons]
    split
    · exact Sparse.wfFrom_mono (by omega) (ih hm.2.2.2)
    · rw [Sparse.wfFrom_cons]; exact ⟨hm.1, hm.2.1, hm.2.2.1, ih hm.2.2.2⟩

theorem Sparse.wfFrom_insert {d : α} {size a : Nat} {v : α} (ha : a < size) (hv : v ≠ d) {lo : Nat} (hlo : lo ≤ a)
    {m : Sparse α} (hne : ∀ c ∈ m, c.1 ≠ a) (hm : Sparse.wfFrom d size lo m = true) :
    Sparse.wfFrom d size lo (Sparse.insert a v m) = true := by
  induction m generalizing lo with
  | nil => simp [Sparse.insert, Sparse.wfFrom_cons, ha, hv, hlo]
  | cons c m ih =>
    obtain ⟨k, w⟩ := c
    rw [Sparse.wfFrom_cons] at hm
    have hk : k ≠ a := hne (k, w) (by simp)
    unfold Sparse.insert
    split
    · rw [Sparse.wfFrom_cons, Sparse.wfFrom_cons]
      exact ⟨hlo, ha, hv, by omega, hm.2⟩
    · rw [Sparse.wfFrom_cons]
      exact ⟨hm.1, hm.2.1, hm.2.2.1, ih (by omega) (fun c hc => hne c (by simp [hc])) hm.2.2.2⟩

/-- A write at an index of the array keeps the canonical form. -/
theorem Sparse.wf_write {d : α} {size a : Nat} (v : α) (ha : a < size) {m : Sparse α}
    (hm : Sparse.wf d size m = true) : Sparse.wf d size (Sparse.write d m a v) = true := by
  unfold Sparse.write Sparse.wf at *
  split
  · exact Sparse.wfFrom_erase a hm
  · next hv =>
    exact Sparse.wfFrom_insert ha hv (Nat.zero_le a) (by simp [Sparse.erase]) (Sparse.wfFrom_erase a hm)

@[simp] theorem Sparse.wf_nil (d : α) (size : Nat) : Sparse.wf d size [] = true := rfl

theorem Sparse.read_below {d : α} {size lo : Nat} {m : Sparse α} (hm : Sparse.wfFrom d size lo m = true) {a : Nat}
    (ha : a < lo) : Sparse.read d m a = d := by
  induction m generalizing lo with
  | nil => rfl
  | cons c m ih =>
    obtain ⟨k, v⟩ := c
    rw [Sparse.wfFrom_cons] at hm
    rw [Sparse.read_cons, if_neg (by omega)]
    exact ih hm.2.2.2 (by omega)

/-- Canonical arrays that read alike are the same list. -/
theorem Sparse.ext_of_wf {d : α} {size : Nat} {lo lo' : Nat} {m m' : Sparse α}
    (hm : Sparse.wfFrom d size lo m = true) (hm' : Sparse.wfFrom d size lo' m' = true)
    (h : ∀ a, Sparse.read d m a = Sparse.read d m' a) : m = m' := by
  induction m generalizing lo lo' m' with
  | nil =>
    cases m' with
    | nil => rfl
    | cons c' m' =>
      obtain ⟨k', v'⟩ := c'
      rw [Sparse.wfFrom_cons] at hm'
      have := h k'
      simp [Sparse.read_cons] at this
      exact absurd this.symm hm'.2.2.1
  | cons c m ih =>
    obtain ⟨k, v⟩ := c
    rw [Sparse.wfFrom_cons] at hm
    cases m' with
    | nil =>
      have := h k
      simp [Sparse.read_cons] at this
      exact absurd this hm.2.2.1
    | cons c' m' =>
      obtain ⟨k', v'⟩ := c'
      rw [Sparse.wfFrom_cons] at hm'
      have below := fun {j} (hj : j < k + 1) => Sparse.read_below hm.2.2.2 hj
      have below' := fun {j} (hj : j < k' + 1) => Sparse.read_below hm'.2.2.2 hj
      have hkk : k = k' := by
        rcases Nat.lt_trichotomy k k' with hlt | heq | hgt
        · have := h k
          rw [Sparse.read_cons, if_pos rfl, Sparse.read_cons, if_neg (by omega), below' (by omega)] at this
          exact absurd this hm.2.2.1
        · exact heq
        · have := h k'
          rw [Sparse.read_cons, if_neg (by omega), below (by omega), Sparse.read_cons, if_pos rfl] at this
          exact absurd this.symm hm'.2.2.1
      subst hkk
      have hv : v = v' := by simpa [Sparse.read_cons] using h k
      subst hv
      congr 1
      refine ih hm.2.2.2 hm'.2.2.2 fun a => ?_
      have := h a
      rw [Sparse.read_cons, Sparse.read_cons] at this
      by_cases hak : a = k
      · subst hak; rw [below (by omega), below' (by omega)]
      · rwa [if_neg hak, if_neg hak] at this

end

/-! ### Memories and tables -/

@[simp] theorem Memory.read_nil (a : Nat) : Memory.read [] a = 0x00 := rfl

@[simp] theorem Memory.read_write (m : Memory) (a : Nat) (v : Byte) (b : Nat) :
    (m.write a v).read b = if b = a then v else m.read b := Sparse.read_write _ m a v b

theorem Memory.wf_write {size a : Nat} (v : Byte) (ha : a < size) {m : Memory} (hm : m.wf size = true) :
    (m.write a v).wf size = true := Sparse.wf_write v ha hm

@[simp] theorem Memory.wf_nil (size : Nat) : Memory.wf size [] = true := rfl

@[simp] theorem BitTable.read_nil (a : Nat) : BitTable.read [] a = false := rfl

@[simp] theorem BitTable.read_write (t : BitTable) (a : Nat) (b : Bool) (c : Nat) :
    (t.write a b).read c = if c = a then b else t.read c := Sparse.read_write _ t a b c

theorem BitTable.wf_write {size a : Nat} (b : Bool) (ha : a < size) {t : BitTable} (ht : t.wf size = true) :
    (t.write a b).wf size = true := Sparse.wf_write b ha ht

@[simp] theorem BitTable.wf_nil (size : Nat) : BitTable.wf size [] = true := rfl

/-- What a block store does to every byte. -/
theorem Memory.read_writeList (bs : List Byte) (a : Nat) (m : Memory) (b : Nat) :
    (Memory.writeList a bs m).read b = if a ≤ b ∧ b < a + bs.length then bs.getD (b - a) 0 else m.read b := by
  induction bs generalizing a m with
  | nil => simp only [Memory.writeList, List.length_nil]; rw [if_neg (by omega)]
  | cons x bs ih =>
    simp only [Memory.writeList, ih, Memory.read_write, List.length_cons]
    by_cases h : b = a
    · subst h; rw [if_neg (by omega), if_pos rfl, if_pos (by omega)]; simp
    · by_cases h2 : a + 1 ≤ b ∧ b < a + 1 + bs.length
      · rw [if_pos h2, if_pos (by omega)]
        have : b - a = b - (a + 1) + 1 := by omega
        rw [this, List.getD_cons_succ]
      · rw [if_neg h2, if_neg h, if_neg (by omega)]

theorem Memory.wf_writeList {size : Nat} (bs : List Byte) (a : Nat) {m : Memory} (h : a + bs.length ≤ size)
    (hm : m.wf size = true) : (Memory.writeList a bs m).wf size = true := by
  induction bs generalizing a m with
  | nil => exact hm
  | cons x bs ih =>
    simp only [List.length_cons] at h
    exact ih (a + 1) (by omega) (Memory.wf_write x (by omega) hm)

@[simp] theorem Memory.length_readList (m : Memory) (a n : Nat) : (m.readList a n).length = n := by
  induction n generalizing a with
  | zero => rfl
  | succ n ih => simp [Memory.readList, ih]

theorem Memory.getElem?_readList (m : Memory) (a n i : Nat) :
    (m.readList a n)[i]? = if i < n then some (m.read (a + i)) else none := by
  induction n generalizing a i with
  | zero => simp [Memory.readList]
  | succ n ih =>
    cases i with
    | zero => simp [Memory.readList]
    | succ i =>
      simp only [Memory.readList, List.getElem?_cons_succ, ih]
      have : a + 1 + i = a + (i + 1) := by omega
      simp [this]

end Sys2Proof.Machine
end

