-- ==== Sys2Proof/Laws/State.lean ====
section
/-! SUPPORT. One lemma per field per update: the small lemmas of every primitive update of the state, so that no later
proof unfolds one. -/

namespace Sys2Proof.Machine

section
variable (a : Addr) (v : Byte) (s : State)

@[simp] theorem writeMem_cfg : (writeMem a v s).cfg = s.cfg := rfl
@[simp] theorem writeMem_mem : (writeMem a v s).mem = s.mem.write a.toNat v := rfl
@[simp] theorem writeMem_fb : (writeMem a v s).fb = s.fb := rfl
@[simp] theorem writeMem_ttyq : (writeMem a v s).ttyq = s.ttyq := rfl
@[simp] theorem writeMem_ttyOut : (writeMem a v s).ttyOut = s.ttyOut := rfl
@[simp] theorem writeMem_pins : (writeMem a v s).pins = s.pins := rfl
@[simp] theorem writeMem_cpu : (writeMem a v s).cpu = s.cpu := rfl
@[simp] theorem writeMem_bp : (writeMem a v s).bp = s.bp := rfl
@[simp] theorem writeMem_bpEnable : (writeMem a v s).bpEnable = s.bpEnable := rfl
@[simp] theorem writeMem_bpHit : (writeMem a v s).bpHit = s.bpHit := rfl
@[simp] theorem writeMem_bpHitAddr : (writeMem a v s).bpHitAddr = s.bpHitAddr := rfl
@[simp] theorem writeMem_wpWrite : (writeMem a v s).wpWrite = s.wpWrite := rfl
@[simp] theorem writeMem_wpRead : (writeMem a v s).wpRead = s.wpRead := rfl
@[simp] theorem writeMem_wpEnable : (writeMem a v s).wpEnable = s.wpEnable := rfl
@[simp] theorem writeMem_wpHit : (writeMem a v s).wpHit = s.wpHit := rfl
@[simp] theorem writeMem_wpHitAddr : (writeMem a v s).wpHitAddr = s.wpHitAddr := rfl
@[simp] theorem writeMem_wpHitType : (writeMem a v s).wpHitType = s.wpHitType := rfl
@[simp] theorem writeMem_tickCount : (writeMem a v s).tickCount = s.tickCount := rfl
@[simp] theorem writeMem_anchor : (writeMem a v s).anchor = s.anchor := rfl
@[simp] theorem writeMem_anchorArmed : (writeMem a v s).anchorArmed = s.anchorArmed := rfl
@[simp] theorem writeMem_inputs : (writeMem a v s).inputs = s.inputs := rfl
@[simp] theorem writeMem_hostq : (writeMem a v s).hostq = s.hostq := rfl
@[simp] theorem writeMem_result : (writeMem a v s).result = s.result := rfl

end

section
variable (i : Byte) (v : Byte) (s : State)

@[simp] theorem writeFb_cfg : (writeFb i v s).cfg = s.cfg := rfl
@[simp] theorem writeFb_mem : (writeFb i v s).mem = s.mem := rfl
@[simp] theorem writeFb_fb : (writeFb i v s).fb = s.fb.write i.toNat v := rfl
@[simp] theorem writeFb_ttyq : (writeFb i v s).ttyq = s.ttyq := rfl
@[simp] theorem writeFb_ttyOut : (writeFb i v s).ttyOut = s.ttyOut := rfl
@[simp] theorem writeFb_pins : (writeFb i v s).pins = s.pins := rfl
@[simp] theorem writeFb_cpu : (writeFb i v s).cpu = s.cpu := rfl
@[simp] theorem writeFb_bp : (writeFb i v s).bp = s.bp := rfl
@[simp] theorem writeFb_bpEnable : (writeFb i v s).bpEnable = s.bpEnable := rfl
@[simp] theorem writeFb_bpHit : (writeFb i v s).bpHit = s.bpHit := rfl
@[simp] theorem writeFb_bpHitAddr : (writeFb i v s).bpHitAddr = s.bpHitAddr := rfl
@[simp] theorem writeFb_wpWrite : (writeFb i v s).wpWrite = s.wpWrite := rfl
@[simp] theorem writeFb_wpRead : (writeFb i v s).wpRead = s.wpRead := rfl
@[simp] theorem writeFb_wpEnable : (writeFb i v s).wpEnable = s.wpEnable := rfl
@[simp] theorem writeFb_wpHit : (writeFb i v s).wpHit = s.wpHit := rfl
@[simp] theorem writeFb_wpHitAddr : (writeFb i v s).wpHitAddr = s.wpHitAddr := rfl
@[simp] theorem writeFb_wpHitType : (writeFb i v s).wpHitType = s.wpHitType := rfl
@[simp] theorem writeFb_tickCount : (writeFb i v s).tickCount = s.tickCount := rfl
@[simp] theorem writeFb_anchor : (writeFb i v s).anchor = s.anchor := rfl
@[simp] theorem writeFb_anchorArmed : (writeFb i v s).anchorArmed = s.anchorArmed := rfl
@[simp] theorem writeFb_inputs : (writeFb i v s).inputs = s.inputs := rfl
@[simp] theorem writeFb_hostq : (writeFb i v s).hostq = s.hostq := rfl
@[simp] theorem writeFb_result : (writeFb i v s).result = s.result := rfl

end

section
variable (v : Byte) (s : State)

@[simp] theorem setData_cfg : (setData v s).cfg = s.cfg := rfl
@[simp] theorem setData_mem : (setData v s).mem = s.mem := rfl
@[simp] theorem setData_fb : (setData v s).fb = s.fb := rfl
@[simp] theorem setData_ttyq : (setData v s).ttyq = s.ttyq := rfl
@[simp] theorem setData_ttyOut : (setData v s).ttyOut = s.ttyOut := rfl
@[simp] theorem setData_pins : (setData v s).pins = { s.pins with data := v } := rfl
@[simp] theorem setData_cpu : (setData v s).cpu = s.cpu := rfl
@[simp] theorem setData_bp : (setData v s).bp = s.bp := rfl
@[simp] theorem setData_bpEnable : (setData v s).bpEnable = s.bpEnable := rfl
@[simp] theorem setData_bpHit : (setData v s).bpHit = s.bpHit := rfl
@[simp] theorem setData_bpHitAddr : (setData v s).bpHitAddr = s.bpHitAddr := rfl
@[simp] theorem setData_wpWrite : (setData v s).wpWrite = s.wpWrite := rfl
@[simp] theorem setData_wpRead : (setData v s).wpRead = s.wpRead := rfl
@[simp] theorem setData_wpEnable : (setData v s).wpEnable = s.wpEnable := rfl
@[simp] theorem setData_wpHit : (setData v s).wpHit = s.wpHit := rfl
@[simp] theorem setData_wpHitAddr : (setData v s).wpHitAddr = s.wpHitAddr := rfl
@[simp] theorem setData_wpHitType : (setData v s).wpHitType = s.wpHitType := rfl
@[simp] theorem setData_tickCount : (setData v s).tickCount = s.tickCount := rfl
@[simp] theorem setData_anchor : (setData v s).anchor = s.anchor := rfl
@[simp] theorem setData_anchorArmed : (setData v s).anchorArmed = s.anchorArmed := rfl
@[simp] theorem setData_inputs : (setData v s).inputs = s.inputs := rfl
@[simp] theorem setData_hostq : (setData v s).hostq = s.hostq := rfl
@[simp] theorem setData_result : (setData v s).result = s.result := rfl

end

section
variable (b : Byte) (s : State)

@[simp] theorem emit_cfg : (emit b s).cfg = s.cfg := rfl
@[simp] theorem emit_mem : (emit b s).mem = s.mem := rfl
@[simp] theorem emit_fb : (emit b s).fb = s.fb := rfl
@[simp] theorem emit_ttyq : (emit b s).ttyq = s.ttyq := rfl
@[simp] theorem emit_ttyOut : (emit b s).ttyOut = s.ttyOut ++ [b] := rfl
@[simp] theorem emit_pins : (emit b s).pins = s.pins := rfl
@[simp] theorem emit_cpu : (emit b s).cpu = s.cpu := rfl
@[simp] theorem emit_bp : (emit b s).bp = s.bp := rfl
@[simp] theorem emit_bpEnable : (emit b s).bpEnable = s.bpEnable := rfl
@[simp] theorem emit_bpHit : (emit b s).bpHit = s.bpHit := rfl
@[simp] theorem emit_bpHitAddr : (emit b s).bpHitAddr = s.bpHitAddr := rfl
@[simp] theorem emit_wpWrite : (emit b s).wpWrite = s.wpWrite := rfl
@[simp] theorem emit_wpRead : (emit b s).wpRead = s.wpRead := rfl
@[simp] theorem emit_wpEnable : (emit b s).wpEnable = s.wpEnable := rfl
@[simp] theorem emit_wpHit : (emit b s).wpHit = s.wpHit := rfl
@[simp] theorem emit_wpHitAddr : (emit b s).wpHitAddr = s.wpHitAddr := rfl
@[simp] theorem emit_wpHitType : (emit b s).wpHitType = s.wpHitType := rfl
@[simp] theorem emit_tickCount : (emit b s).tickCount = s.tickCount := rfl
@[simp] theorem emit_anchor : (emit b s).anchor = s.anchor := rfl
@[simp] theorem emit_anchorArmed : (emit b s).anchorArmed = s.anchorArmed := rfl
@[simp] theorem emit_inputs : (emit b s).inputs = s.inputs := rfl
@[simp] theorem emit_hostq : (emit b s).hostq = s.hostq := rfl
@[simp] theorem emit_result : (emit b s).result = s.result := rfl

end

section
variable (bs : List Byte) (s : State)

@[simp] theorem enqueue_cfg : (enqueue bs s).cfg = s.cfg := rfl
@[simp] theorem enqueue_mem : (enqueue bs s).mem = s.mem := rfl
@[simp] theorem enqueue_fb : (enqueue bs s).fb = s.fb := rfl
@[simp] theorem enqueue_ttyq : (enqueue bs s).ttyq = s.ttyq ++ bs := rfl
@[simp] theorem enqueue_ttyOut : (enqueue bs s).ttyOut = s.ttyOut := rfl
@[simp] theorem enqueue_pins : (enqueue bs s).pins = s.pins := rfl
@[simp] theorem enqueue_cpu : (enqueue bs s).cpu = s.cpu := rfl
@[simp] theorem enqueue_bp : (enqueue bs s).bp = s.bp := rfl
@[simp] theorem enqueue_bpEnable : (enqueue bs s).bpEnable = s.bpEnable := rfl
@[simp] theorem enqueue_bpHit : (enqueue bs s).bpHit = s.bpHit := rfl
@[simp] theorem enqueue_bpHitAddr : (enqueue bs s).bpHitAddr = s.bpHitAddr := rfl
@[simp] theorem enqueue_wpWrite : (enqueue bs s).wpWrite = s.wpWrite := rfl
@[simp] theorem enqueue_wpRead : (enqueue bs s).wpRead = s.wpRead := rfl
@[simp] theorem enqueue_wpEnable : (enqueue bs s).wpEnable = s.wpEnable := rfl
@[simp] theorem enqueue_wpHit : (enqueue bs s).wpHit = s.wpHit := rfl
@[simp] theorem enqueue_wpHitAddr : (enqueue bs s).wpHitAddr = s.wpHitAddr := rfl
@[simp] theorem enqueue_wpHitType : (enqueue bs s).wpHitType = s.wpHitType := rfl
@[simp] theorem enqueue_tickCount : (enqueue bs s).tickCount = s.tickCount := rfl
@[simp] theorem enqueue_anchor : (enqueue bs s).anchor = s.anchor := rfl
@[simp] theorem enqueue_anchorArmed : (enqueue bs s).anchorArmed = s.anchorArmed := rfl
@[simp] theorem enqueue_inputs : (enqueue bs s).inputs = s.inputs := rfl
@[simp] theorem enqueue_hostq : (enqueue bs s).hostq = s.hostq := rfl
@[simp] theorem enqueue_result : (enqueue bs s).result = s.result := rfl

end

section
variable (s : State)

@[simp] theorem dequeue_cfg : (dequeue s).cfg = s.cfg := rfl
@[simp] theorem dequeue_mem : (dequeue s).mem = s.mem := rfl
@[simp] theorem dequeue_fb : (dequeue s).fb = s.fb := rfl
@[simp] theorem dequeue_ttyq : (dequeue s).ttyq = s.ttyq.tail := rfl
@[simp] theorem dequeue_ttyOut : (dequeue s).ttyOut = s.ttyOut := rfl
@[simp] theorem dequeue_pins : (dequeue s).pins = s.pins := rfl
@[simp] theorem dequeue_cpu : (dequeue s).cpu = s.cpu := rfl
@[simp] theorem dequeue_bp : (dequeue s).bp = s.bp := rfl
@[simp] theorem dequeue_bpEnable : (dequeue s).bpEnable = s.bpEnable := rfl
@[simp] theorem dequeue_bpHit : (dequeue s).bpHit = s.bpHit := rfl
@[simp] theorem dequeue_bpHitAddr : (dequeue s).bpHitAddr = s.bpHitAddr := rfl
@[simp] theorem dequeue_wpWrite : (dequeue s).wpWrite = s.wpWrite := rfl
@[simp] theorem dequeue_wpRead : (dequeue s).wpRead = s.wpRead := rfl
@[simp] theorem dequeue_wpEnable : (dequeue s).wpEnable = s.wpEnable := rfl
@[simp] theorem dequeue_wpHit : (dequeue s).wpHit = s.wpHit := rfl
@[simp] theorem dequeue_wpHitAddr : (dequeue s).wpHitAddr = s.wpHitAddr := rfl
@[simp] theorem dequeue_wpHitType : (dequeue s).wpHitType = s.wpHitType := rfl
@[simp] theorem dequeue_tickCount : (dequeue s).tickCount = s.tickCount := rfl
@[simp] theorem dequeue_anchor : (dequeue s).anchor = s.anchor := rfl
@[simp] theorem dequeue_anchorArmed : (dequeue s).anchorArmed = s.anchorArmed := rfl
@[simp] theorem dequeue_inputs : (dequeue s).inputs = s.inputs := rfl
@[simp] theorem dequeue_hostq : (dequeue s).hostq = s.hostq := rfl
@[simp] theorem dequeue_result : (dequeue s).result = s.result := rfl

end

section
variable (a : Addr) (b : Bool) (s : State)

@[simp] theorem writeBp_cfg : (writeBp a b s).cfg = s.cfg := rfl
@[simp] theorem writeBp_mem : (writeBp a b s).mem = s.mem := rfl
@[simp] theorem writeBp_fb : (writeBp a b s).fb = s.fb := rfl
@[simp] theorem writeBp_ttyq : (writeBp a b s).ttyq = s.ttyq := rfl
@[simp] theorem writeBp_ttyOut : (writeBp a b s).ttyOut = s.ttyOut := rfl
@[simp] theorem writeBp_pins : (writeBp a b s).pins = s.pins := rfl
@[simp] theorem writeBp_cpu : (writeBp a b s).cpu = s.cpu := rfl
@[simp] theorem writeBp_bp : (writeBp a b s).bp = s.bp.write a.toNat b := rfl
@[simp] theorem writeBp_bpEnable : (writeBp a b s).bpEnable = s.bpEnable := rfl
@[simp] theorem writeBp_bpHit : (writeBp a b s).bpHit = s.bpHit := rfl
@[simp] theorem writeBp_bpHitAddr : (writeBp a b s).bpHitAddr = s.bpHitAddr := rfl
@[simp] theorem writeBp_wpWrite : (writeBp a b s).wpWrite = s.wpWrite := rfl
@[simp] theorem writeBp_wpRead : (writeBp a b s).wpRead = s.wpRead := rfl
@[simp] theorem writeBp_wpEnable : (writeBp a b s).wpEnable = s.wpEnable := rfl
@[simp] theorem writeBp_wpHit : (writeBp a b s).wpHit = s.wpHit := rfl
@[simp] theorem writeBp_wpHitAddr : (writeBp a b s).wpHitAddr = s.wpHitAddr := rfl
@[simp] theorem writeBp_wpHitType : (writeBp a b s).wpHitType = s.wpHitType := rfl
@[simp] theorem writeBp_tickCount : (writeBp a b s).tickCount = s.tickCount := rfl
@[simp] theorem writeBp_anchor : (writeBp a b s).anchor = s.anchor := rfl
@[simp] theorem writeBp_anchorArmed : (writeBp a b s).anchorArmed = s.anchorArmed := rfl
@[simp] theorem writeBp_inputs : (writeBp a b s).inputs = s.inputs := rfl
@[simp] theorem writeBp_hostq : (writeBp a b s).hostq = s.hostq := rfl
@[simp] theorem writeBp_result : (writeBp a b s).result = s.result := rfl

end

section
variable (w r : Bool) (a : Addr) (b : Bool) (s : State)

@[simp] theorem writeWp_cfg : (writeWp w r a b s).cfg = s.cfg := rfl
@[simp] theorem writeWp_mem : (writeWp w r a b s).mem = s.mem := rfl
@[simp] theorem writeWp_fb : (writeWp w r a b s).fb = s.fb := rfl
@[simp] theorem writeWp_ttyq : (writeWp w r a b s).ttyq = s.ttyq := rfl
@[simp] theorem writeWp_ttyOut : (writeWp w r a b s).ttyOut = s.ttyOut := rfl
@[simp] theorem writeWp_pins : (writeWp w r a b s).pins = s.pins := rfl
@[simp] theorem writeWp_cpu : (writeWp w r a b s).cpu = s.cpu := rfl
@[simp] theorem writeWp_bp : (writeWp w r a b s).bp = s.bp := rfl
@[simp] theorem writeWp_bpEnable : (writeWp w r a b s).bpEnable = s.bpEnable := rfl
@[simp] theorem writeWp_bpHit : (writeWp w r a b s).bpHit = s.bpHit := rfl
@[simp] theorem writeWp_bpHitAddr : (writeWp w r a b s).bpHitAddr = s.bpHitAddr := rfl
@[simp] theorem writeWp_wpWrite : (writeWp w r a b s).wpWrite = if w then s.wpWrite.write a.toNat b else s.wpWrite := rfl
@[simp] theorem writeWp_wpRead : (writeWp w r a b s).wpRead = if r then s.wpRead.write a.toNat b else s.wpRead := rfl
@[simp] theorem writeWp_wpEnable : (writeWp w r a b s).wpEnable = s.wpEnable := rfl
@[simp] theorem writeWp_wpHit : (writeWp w r a b s).wpHit = s.wpHit := rfl
@[simp] theorem writeWp_wpHitAddr : (writeWp w r a b s).wpHitAddr = s.wpHitAddr := rfl
@[simp] theorem writeWp_wpHitType : (writeWp w r a b s).wpHitType = s.wpHitType := rfl
@[simp] theorem writeWp_tickCount : (writeWp w r a b s).tickCount = s.tickCount := rfl
@[simp] theorem writeWp_anchor : (writeWp w r a b s).anchor = s.anchor := rfl
@[simp] theorem writeWp_anchorArmed : (writeWp w r a b s).anchorArmed = s.anchorArmed := rfl
@[simp] theorem writeWp_inputs : (writeWp w r a b s).inputs = s.inputs := rfl
@[simp] theorem writeWp_hostq : (writeWp w r a b s).hostq = s.hostq := rfl
@[simp] theorem writeWp_result : (writeWp w r a b s).result = s.result := rfl

end

section
variable (r : HostResult) (s : State)

@[simp] theorem reply_cfg : (reply r s).cfg = s.cfg := rfl
@[simp] theorem reply_mem : (reply r s).mem = s.mem := rfl
@[simp] theorem reply_fb : (reply r s).fb = s.fb := rfl
@[simp] theorem reply_ttyq : (reply r s).ttyq = s.ttyq := rfl
@[simp] theorem reply_ttyOut : (reply r s).ttyOut = s.ttyOut := rfl
@[simp] theorem reply_pins : (reply r s).pins = s.pins := rfl
@[simp] theorem reply_cpu : (reply r s).cpu = s.cpu := rfl
@[simp] theorem reply_bp : (reply r s).bp = s.bp := rfl
@[simp] theorem reply_bpEnable : (reply r s).bpEnable = s.bpEnable := rfl
@[simp] theorem reply_bpHit : (reply r s).bpHit = s.bpHit := rfl
@[simp] theorem reply_bpHitAddr : (reply r s).bpHitAddr = s.bpHitAddr := rfl
@[simp] theorem reply_wpWrite : (reply r s).wpWrite = s.wpWrite := rfl
@[simp] theorem reply_wpRead : (reply r s).wpRead = s.wpRead := rfl
@[simp] theorem reply_wpEnable : (reply r s).wpEnable = s.wpEnable := rfl
@[simp] theorem reply_wpHit : (reply r s).wpHit = s.wpHit := rfl
@[simp] theorem reply_wpHitAddr : (reply r s).wpHitAddr = s.wpHitAddr := rfl
@[simp] theorem reply_wpHitType : (reply r s).wpHitType = s.wpHitType := rfl
@[simp] theorem reply_tickCount : (reply r s).tickCount = s.tickCount := rfl
@[simp] theorem reply_anchor : (reply r s).anchor = s.anchor := rfl
@[simp] theorem reply_anchorArmed : (reply r s).anchorArmed = s.anchorArmed := rfl
@[simp] theorem reply_inputs : (reply r s).inputs = s.inputs := rfl
@[simp] theorem reply_hostq : (reply r s).hostq = s.hostq := rfl
@[simp] theorem reply_result : (reply r s).result = r := rfl

end

section
variable (s : State)

@[simp] theorem irqLiveness_cfg : (irqLiveness s).cfg = s.cfg := rfl
@[simp] theorem irqLiveness_mem : (irqLiveness s).mem = s.mem.write irqCellAddr.toNat ((irqCell s &&& 0xFD) ||| (if ttyPending s then ttyIrqMask else 0x00)) := rfl
@[simp] theorem irqLiveness_fb : (irqLiveness s).fb = s.fb := rfl
@[simp] theorem irqLiveness_ttyq : (irqLiveness s).ttyq = s.ttyq := rfl
@[simp] theorem irqLiveness_ttyOut : (irqLiveness s).ttyOut = s.ttyOut := rfl
@[simp] theorem irqLiveness_pins : (irqLiveness s).pins = s.pins := rfl
@[simp] theorem irqLiveness_cpu : (irqLiveness s).cpu = s.cpu := rfl
@[simp] theorem irqLiveness_bp : (irqLiveness s).bp = s.bp := rfl
@[simp] theorem irqLiveness_bpEnable : (irqLiveness s).bpEnable = s.bpEnable := rfl
@[simp] theorem irqLiveness_bpHit : (irqLiveness s).bpHit = s.bpHit := rfl
@[simp] theorem irqLiveness_bpHitAddr : (irqLiveness s).bpHitAddr = s.bpHitAddr := rfl
@[simp] theorem irqLiveness_wpWrite : (irqLiveness s).wpWrite = s.wpWrite := rfl
@[simp] theorem irqLiveness_wpRead : (irqLiveness s).wpRead = s.wpRead := rfl
@[simp] theorem irqLiveness_wpEnable : (irqLiveness s).wpEnable = s.wpEnable := rfl
@[simp] theorem irqLiveness_wpHit : (irqLiveness s).wpHit = s.wpHit := rfl
@[simp] theorem irqLiveness_wpHitAddr : (irqLiveness s).wpHitAddr = s.wpHitAddr := rfl
@[simp] theorem irqLiveness_wpHitType : (irqLiveness s).wpHitType = s.wpHitType := rfl
@[simp] theorem irqLiveness_tickCount : (irqLiveness s).tickCount = s.tickCount := rfl
@[simp] theorem irqLiveness_anchor : (irqLiveness s).anchor = s.anchor := rfl
@[simp] theorem irqLiveness_anchorArmed : (irqLiveness s).anchorArmed = s.anchorArmed := rfl
@[simp] theorem irqLiveness_inputs : (irqLiveness s).inputs = s.inputs := rfl
@[simp] theorem irqLiveness_hostq : (irqLiveness s).hostq = s.hostq := rfl
@[simp] theorem irqLiveness_result : (irqLiveness s).result = s.result := rfl

end

section
variable (s : State)

@[simp] theorem pumpIrq_cfg : (pumpIrq s).cfg = s.cfg := rfl
@[simp] theorem pumpIrq_mem : (pumpIrq s).mem = if ttyPending s then s.mem.write irqCellAddr.toNat (irqCell s ||| ttyIrqMask) else s.mem := rfl
@[simp] theorem pumpIrq_fb : (pumpIrq s).fb = s.fb := rfl
@[simp] theorem pumpIrq_ttyq : (pumpIrq s).ttyq = s.ttyq := rfl
@[simp] theorem pumpIrq_ttyOut : (pumpIrq s).ttyOut = s.ttyOut := rfl
@[simp] theorem pumpIrq_pins : (pumpIrq s).pins = s.pins := rfl
@[simp] theorem pumpIrq_cpu : (pumpIrq s).cpu = s.cpu := rfl
@[simp] theorem pumpIrq_bp : (pumpIrq s).bp = s.bp := rfl
@[simp] theorem pumpIrq_bpEnable : (pumpIrq s).bpEnable = s.bpEnable := rfl
@[simp] theorem pumpIrq_bpHit : (pumpIrq s).bpHit = s.bpHit := rfl
@[simp] theorem pumpIrq_bpHitAddr : (pumpIrq s).bpHitAddr = s.bpHitAddr := rfl
@[simp] theorem pumpIrq_wpWrite : (pumpIrq s).wpWrite = s.wpWrite := rfl
@[simp] theorem pumpIrq_wpRead : (pumpIrq s).wpRead = s.wpRead := rfl
@[simp] theorem pumpIrq_wpEnable : (pumpIrq s).wpEnable = s.wpEnable := rfl
@[simp] theorem pumpIrq_wpHit : (pumpIrq s).wpHit = s.wpHit := rfl
@[simp] theorem pumpIrq_wpHitAddr : (pumpIrq s).wpHitAddr = s.wpHitAddr := rfl
@[simp] theorem pumpIrq_wpHitType : (pumpIrq s).wpHitType = s.wpHitType := rfl
@[simp] theorem pumpIrq_tickCount : (pumpIrq s).tickCount = s.tickCount := rfl
@[simp] theorem pumpIrq_anchor : (pumpIrq s).anchor = s.anchor := rfl
@[simp] theorem pumpIrq_anchorArmed : (pumpIrq s).anchorArmed = s.anchorArmed := rfl
@[simp] theorem pumpIrq_inputs : (pumpIrq s).inputs = s.inputs := rfl
@[simp] theorem pumpIrq_hostq : (pumpIrq s).hostq = s.hostq := rfl
@[simp] theorem pumpIrq_result : (pumpIrq s).result = s.result := rfl

end

section
variable (s : State)

@[simp] theorem driveLines_cfg : (driveLines s).cfg = s.cfg := rfl
@[simp] theorem driveLines_mem : (driveLines s).mem = s.mem := rfl
@[simp] theorem driveLines_fb : (driveLines s).fb = s.fb := rfl
@[simp] theorem driveLines_ttyq : (driveLines s).ttyq = s.ttyq := rfl
@[simp] theorem driveLines_ttyOut : (driveLines s).ttyOut = s.ttyOut := rfl
@[simp] theorem driveLines_pins : (driveLines s).pins = { s.pins with irq := irqEncode s.cfg.irqPinPolarity (irqCell s != 0x00), nmi := false } := rfl
@[simp] theorem driveLines_cpu : (driveLines s).cpu = s.cpu := rfl
@[simp] theorem driveLines_bp : (driveLines s).bp = s.bp := rfl
@[simp] theorem driveLines_bpEnable : (driveLines s).bpEnable = s.bpEnable := rfl
@[simp] theorem driveLines_bpHit : (driveLines s).bpHit = s.bpHit := rfl
@[simp] theorem driveLines_bpHitAddr : (driveLines s).bpHitAddr = s.bpHitAddr := rfl
@[simp] theorem driveLines_wpWrite : (driveLines s).wpWrite = s.wpWrite := rfl
@[simp] theorem driveLines_wpRead : (driveLines s).wpRead = s.wpRead := rfl
@[simp] theorem driveLines_wpEnable : (driveLines s).wpEnable = s.wpEnable := rfl
@[simp] theorem driveLines_wpHit : (driveLines s).wpHit = s.wpHit := rfl
@[simp] theorem driveLines_wpHitAddr : (driveLines s).wpHitAddr = s.wpHitAddr := rfl
@[simp] theorem driveLines_wpHitType : (driveLines s).wpHitType = s.wpHitType := rfl
@[simp] theorem driveLines_tickCount : (driveLines s).tickCount = s.tickCount := rfl
@[simp] theorem driveLines_anchor : (driveLines s).anchor = s.anchor := rfl
@[simp] theorem driveLines_anchorArmed : (driveLines s).anchorArmed = s.anchorArmed := rfl
@[simp] theorem driveLines_inputs : (driveLines s).inputs = s.inputs := rfl
@[simp] theorem driveLines_hostq : (driveLines s).hostq = s.hostq := rfl
@[simp] theorem driveLines_result : (driveLines s).result = s.result := rfl

end

section
variable (a : Addr) (s : State)

@[simp] theorem latchBp_cfg : (latchBp a s).cfg = s.cfg := rfl
@[simp] theorem latchBp_mem : (latchBp a s).mem = s.mem := rfl
@[simp] theorem latchBp_fb : (latchBp a s).fb = s.fb := rfl
@[simp] theorem latchBp_ttyq : (latchBp a s).ttyq = s.ttyq := rfl
@[simp] theorem latchBp_ttyOut : (latchBp a s).ttyOut = s.ttyOut := rfl
@[simp] theorem latchBp_pins : (latchBp a s).pins = s.pins := rfl
@[simp] theorem latchBp_cpu : (latchBp a s).cpu = s.cpu := rfl
@[simp] theorem latchBp_bp : (latchBp a s).bp = s.bp := rfl
@[simp] theorem latchBp_bpEnable : (latchBp a s).bpEnable = s.bpEnable := rfl
@[simp] theorem latchBp_bpHit : (latchBp a s).bpHit = true := rfl
@[simp] theorem latchBp_bpHitAddr : (latchBp a s).bpHitAddr = if s.cfg.hitLatchPolicy = .last ∨ s.bpHit = false then a else s.bpHitAddr := rfl
@[simp] theorem latchBp_wpWrite : (latchBp a s).wpWrite = s.wpWrite := rfl
@[simp] theorem latchBp_wpRead : (latchBp a s).wpRead = s.wpRead := rfl
@[simp] theorem latchBp_wpEnable : (latchBp a s).wpEnable = s.wpEnable := rfl
@[simp] theorem latchBp_wpHit : (latchBp a s).wpHit = s.wpHit := rfl
@[simp] theorem latchBp_wpHitAddr : (latchBp a s).wpHitAddr = s.wpHitAddr := rfl
@[simp] theorem latchBp_wpHitType : (latchBp a s).wpHitType = s.wpHitType := rfl
@[simp] theorem latchBp_tickCount : (latchBp a s).tickCount = s.tickCount := rfl
@[simp] theorem latchBp_anchor : (latchBp a s).anchor = s.anchor := rfl
@[simp] theorem latchBp_anchorArmed : (latchBp a s).anchorArmed = s.anchorArmed := rfl
@[simp] theorem latchBp_inputs : (latchBp a s).inputs = s.inputs := rfl
@[simp] theorem latchBp_hostq : (latchBp a s).hostq = s.hostq := rfl
@[simp] theorem latchBp_result : (latchBp a s).result = s.result := rfl

end

section
variable (a : Addr) (t : Byte) (s : State)

@[simp] theorem latchWp_cfg : (latchWp a t s).cfg = s.cfg := rfl
@[simp] theorem latchWp_mem : (latchWp a t s).mem = s.mem := rfl
@[simp] theorem latchWp_fb : (latchWp a t s).fb = s.fb := rfl
@[simp] theorem latchWp_ttyq : (latchWp a t s).ttyq = s.ttyq := rfl
@[simp] theorem latchWp_ttyOut : (latchWp a t s).ttyOut = s.ttyOut := rfl
@[simp] theorem latchWp_pins : (latchWp a t s).pins = s.pins := rfl
@[simp] theorem latchWp_cpu : (latchWp a t s).cpu = s.cpu := rfl
@[simp] theorem latchWp_bp : (latchWp a t s).bp = s.bp := rfl
@[simp] theorem latchWp_bpEnable : (latchWp a t s).bpEnable = s.bpEnable := rfl
@[simp] theorem latchWp_bpHit : (latchWp a t s).bpHit = s.bpHit := rfl
@[simp] theorem latchWp_bpHitAddr : (latchWp a t s).bpHitAddr = s.bpHitAddr := rfl
@[simp] theorem latchWp_wpWrite : (latchWp a t s).wpWrite = s.wpWrite := rfl
@[simp] theorem latchWp_wpRead : (latchWp a t s).wpRead = s.wpRead := rfl
@[simp] theorem latchWp_wpEnable : (latchWp a t s).wpEnable = s.wpEnable := rfl
@[simp] theorem latchWp_wpHit : (latchWp a t s).wpHit = true := rfl
@[simp] theorem latchWp_wpHitAddr : (latchWp a t s).wpHitAddr = if s.cfg.hitLatchPolicy = .last ∨ s.wpHit = false then a else s.wpHitAddr := rfl
@[simp] theorem latchWp_wpHitType : (latchWp a t s).wpHitType = if s.cfg.hitLatchPolicy = .last ∨ s.wpHit = false then t else s.wpHitType := rfl
@[simp] theorem latchWp_tickCount : (latchWp a t s).tickCount = s.tickCount := rfl
@[simp] theorem latchWp_anchor : (latchWp a t s).anchor = s.anchor := rfl
@[simp] theorem latchWp_anchorArmed : (latchWp a t s).anchorArmed = s.anchorArmed := rfl
@[simp] theorem latchWp_inputs : (latchWp a t s).inputs = s.inputs := rfl
@[simp] theorem latchWp_hostq : (latchWp a t s).hostq = s.hostq := rfl
@[simp] theorem latchWp_result : (latchWp a t s).result = s.result := rfl

end

section
variable (pc0 : Addr) (s : State)

@[simp] theorem anchorUpdate_cfg : (anchorUpdate pc0 s).cfg = s.cfg := rfl
@[simp] theorem anchorUpdate_mem : (anchorUpdate pc0 s).mem = s.mem := rfl
@[simp] theorem anchorUpdate_fb : (anchorUpdate pc0 s).fb = s.fb := rfl
@[simp] theorem anchorUpdate_ttyq : (anchorUpdate pc0 s).ttyq = s.ttyq := rfl
@[simp] theorem anchorUpdate_ttyOut : (anchorUpdate pc0 s).ttyOut = s.ttyOut := rfl
@[simp] theorem anchorUpdate_pins : (anchorUpdate pc0 s).pins = s.pins := rfl
@[simp] theorem anchorUpdate_cpu : (anchorUpdate pc0 s).cpu = s.cpu := rfl
@[simp] theorem anchorUpdate_bp : (anchorUpdate pc0 s).bp = s.bp := rfl
@[simp] theorem anchorUpdate_bpEnable : (anchorUpdate pc0 s).bpEnable = s.bpEnable := rfl
@[simp] theorem anchorUpdate_bpHit : (anchorUpdate pc0 s).bpHit = s.bpHit := rfl
@[simp] theorem anchorUpdate_bpHitAddr : (anchorUpdate pc0 s).bpHitAddr = s.bpHitAddr := rfl
@[simp] theorem anchorUpdate_wpWrite : (anchorUpdate pc0 s).wpWrite = s.wpWrite := rfl
@[simp] theorem anchorUpdate_wpRead : (anchorUpdate pc0 s).wpRead = s.wpRead := rfl
@[simp] theorem anchorUpdate_wpEnable : (anchorUpdate pc0 s).wpEnable = s.wpEnable := rfl
@[simp] theorem anchorUpdate_wpHit : (anchorUpdate pc0 s).wpHit = s.wpHit := rfl
@[simp] theorem anchorUpdate_wpHitAddr : (anchorUpdate pc0 s).wpHitAddr = s.wpHitAddr := rfl
@[simp] theorem anchorUpdate_wpHitType : (anchorUpdate pc0 s).wpHitType = s.wpHitType := rfl
@[simp] theorem anchorUpdate_tickCount : (anchorUpdate pc0 s).tickCount = s.tickCount := rfl
@[simp] theorem anchorUpdate_anchorArmed : (anchorUpdate pc0 s).anchorArmed = ((s.pins.sync || s.anchorArmed) && s.pins.addr != pc0) := rfl
@[simp] theorem anchorUpdate_inputs : (anchorUpdate pc0 s).inputs = s.inputs := rfl
@[simp] theorem anchorUpdate_hostq : (anchorUpdate pc0 s).hostq = s.hostq := rfl
@[simp] theorem anchorUpdate_result : (anchorUpdate pc0 s).result = s.result := rfl

end

section
variable (s : State)

@[simp] theorem clearIrqCell_cfg : (clearIrqCell s).cfg = s.cfg := rfl
@[simp] theorem clearIrqCell_mem : (clearIrqCell s).mem = s.mem.write irqCellAddr.toNat 0x00 := rfl
@[simp] theorem clearIrqCell_fb : (clearIrqCell s).fb = s.fb := rfl
@[simp] theorem clearIrqCell_ttyq : (clearIrqCell s).ttyq = s.ttyq := rfl
@[simp] theorem clearIrqCell_ttyOut : (clearIrqCell s).ttyOut = s.ttyOut := rfl
@[simp] theorem clearIrqCell_pins : (clearIrqCell s).pins = s.pins := rfl
@[simp] theorem clearIrqCell_cpu : (clearIrqCell s).cpu = s.cpu := rfl
@[simp] theorem clearIrqCell_bp : (clearIrqCell s).bp = s.bp := rfl
@[simp] theorem clearIrqCell_bpEnable : (clearIrqCell s).bpEnable = s.bpEnable := rfl
@[simp] theorem clearIrqCell_bpHit : (clearIrqCell s).bpHit = s.bpHit := rfl
@[simp] theorem clearIrqCell_bpHitAddr : (clearIrqCell s).bpHitAddr = s.bpHitAddr := rfl
@[simp] theorem clearIrqCell_wpWrite : (clearIrqCell s).wpWrite = s.wpWrite := rfl
@[simp] theorem clearIrqCell_wpRead : (clearIrqCell s).wpRead = s.wpRead := rfl
@[simp] theorem clearIrqCell_wpEnable : (clearIrqCell s).wpEnable = s.wpEnable := rfl
@[simp] theorem clearIrqCell_wpHit : (clearIrqCell s).wpHit = s.wpHit := rfl
@[simp] theorem clearIrqCell_wpHitAddr : (clearIrqCell s).wpHitAddr = s.wpHitAddr := rfl
@[simp] theorem clearIrqCell_wpHitType : (clearIrqCell s).wpHitType = s.wpHitType := rfl
@[simp] theorem clearIrqCell_tickCount : (clearIrqCell s).tickCount = s.tickCount := rfl
@[simp] theorem clearIrqCell_anchor : (clearIrqCell s).anchor = s.anchor := rfl
@[simp] theorem clearIrqCell_anchorArmed : (clearIrqCell s).anchorArmed = s.anchorArmed := rfl
@[simp] theorem clearIrqCell_inputs : (clearIrqCell s).inputs = s.inputs := rfl
@[simp] theorem clearIrqCell_hostq : (clearIrqCell s).hostq = s.hostq := rfl
@[simp] theorem clearIrqCell_result : (clearIrqCell s).result = s.result := rfl

end

section
variable (s : State)

@[simp] theorem advanceCpu_cfg : (advanceCpu s).cfg = s.cfg := rfl
@[simp] theorem advanceCpu_mem : (advanceCpu s).mem = s.mem := rfl
@[simp] theorem advanceCpu_fb : (advanceCpu s).fb = s.fb := rfl
@[simp] theorem advanceCpu_ttyq : (advanceCpu s).ttyq = s.ttyq := rfl
@[simp] theorem advanceCpu_ttyOut : (advanceCpu s).ttyOut = s.ttyOut := rfl
@[simp] theorem advanceCpu_pins : (advanceCpu s).pins = (cpuTick s.cpu s.pins).2 := rfl
@[simp] theorem advanceCpu_cpu : (advanceCpu s).cpu = (cpuTick s.cpu s.pins).1 := rfl
@[simp] theorem advanceCpu_bp : (advanceCpu s).bp = s.bp := rfl
@[simp] theorem advanceCpu_bpEnable : (advanceCpu s).bpEnable = s.bpEnable := rfl
@[simp] theorem advanceCpu_bpHit : (advanceCpu s).bpHit = s.bpHit := rfl
@[simp] theorem advanceCpu_bpHitAddr : (advanceCpu s).bpHitAddr = s.bpHitAddr := rfl
@[simp] theorem advanceCpu_wpWrite : (advanceCpu s).wpWrite = s.wpWrite := rfl
@[simp] theorem advanceCpu_wpRead : (advanceCpu s).wpRead = s.wpRead := rfl
@[simp] theorem advanceCpu_wpEnable : (advanceCpu s).wpEnable = s.wpEnable := rfl
@[simp] theorem advanceCpu_wpHit : (advanceCpu s).wpHit = s.wpHit := rfl
@[simp] theorem advanceCpu_wpHitAddr : (advanceCpu s).wpHitAddr = s.wpHitAddr := rfl
@[simp] theorem advanceCpu_wpHitType : (advanceCpu s).wpHitType = s.wpHitType := rfl
@[simp] theorem advanceCpu_tickCount : (advanceCpu s).tickCount = s.tickCount := rfl
@[simp] theorem advanceCpu_anchor : (advanceCpu s).anchor = s.anchor := rfl
@[simp] theorem advanceCpu_anchorArmed : (advanceCpu s).anchorArmed = s.anchorArmed := rfl
@[simp] theorem advanceCpu_inputs : (advanceCpu s).inputs = s.inputs := rfl
@[simp] theorem advanceCpu_hostq : (advanceCpu s).hostq = s.hostq := rfl
@[simp] theorem advanceCpu_result : (advanceCpu s).result = s.result := rfl

end

section
variable (s : State)

@[simp] theorem countTick_cfg : (countTick s).cfg = s.cfg := rfl
@[simp] theorem countTick_mem : (countTick s).mem = s.mem := rfl
@[simp] theorem countTick_fb : (countTick s).fb = s.fb := rfl
@[simp] theorem countTick_ttyq : (countTick s).ttyq = s.ttyq := rfl
@[simp] theorem countTick_ttyOut : (countTick s).ttyOut = s.ttyOut := rfl
@[simp] theorem countTick_pins : (countTick s).pins = s.pins := rfl
@[simp] theorem countTick_cpu : (countTick s).cpu = s.cpu := rfl
@[simp] theorem countTick_bp : (countTick s).bp = s.bp := rfl
@[simp] theorem countTick_bpEnable : (countTick s).bpEnable = s.bpEnable := rfl
@[simp] theorem countTick_bpHit : (countTick s).bpHit = s.bpHit := rfl
@[simp] theorem countTick_bpHitAddr : (countTick s).bpHitAddr = s.bpHitAddr := rfl
@[simp] theorem countTick_wpWrite : (countTick s).wpWrite = s.wpWrite := rfl
@[simp] theorem countTick_wpRead : (countTick s).wpRead = s.wpRead := rfl
@[simp] theorem countTick_wpEnable : (countTick s).wpEnable = s.wpEnable := rfl
@[simp] theorem countTick_wpHit : (countTick s).wpHit = s.wpHit := rfl
@[simp] theorem countTick_wpHitAddr : (countTick s).wpHitAddr = s.wpHitAddr := rfl
@[simp] theorem countTick_wpHitType : (countTick s).wpHitType = s.wpHitType := rfl
@[simp] theorem countTick_tickCount : (countTick s).tickCount = s.tickCount + 1 := rfl
@[simp] theorem countTick_anchor : (countTick s).anchor = s.anchor := rfl
@[simp] theorem countTick_anchorArmed : (countTick s).anchorArmed = s.anchorArmed := rfl
@[simp] theorem countTick_inputs : (countTick s).inputs = s.inputs := rfl
@[simp] theorem countTick_hostq : (countTick s).hostq = s.hostq := rfl
@[simp] theorem countTick_result : (countTick s).result = s.result := rfl

end

section
variable (b : Bool) (s : State)

@[simp] theorem driveRes_cfg : (driveRes b s).cfg = s.cfg := rfl
@[simp] theorem driveRes_mem : (driveRes b s).mem = s.mem := rfl
@[simp] theorem driveRes_fb : (driveRes b s).fb = s.fb := rfl
@[simp] theorem driveRes_ttyq : (driveRes b s).ttyq = s.ttyq := rfl
@[simp] theorem driveRes_ttyOut : (driveRes b s).ttyOut = s.ttyOut := rfl
@[simp] theorem driveRes_pins : (driveRes b s).pins = { s.pins with res := b } := rfl
@[simp] theorem driveRes_cpu : (driveRes b s).cpu = s.cpu := rfl
@[simp] theorem driveRes_bp : (driveRes b s).bp = s.bp := rfl
@[simp] theorem driveRes_bpEnable : (driveRes b s).bpEnable = s.bpEnable := rfl
@[simp] theorem driveRes_bpHit : (driveRes b s).bpHit = s.bpHit := rfl
@[simp] theorem driveRes_bpHitAddr : (driveRes b s).bpHitAddr = s.bpHitAddr := rfl
@[simp] theorem driveRes_wpWrite : (driveRes b s).wpWrite = s.wpWrite := rfl
@[simp] theorem driveRes_wpRead : (driveRes b s).wpRead = s.wpRead := rfl
@[simp] theorem driveRes_wpEnable : (driveRes b s).wpEnable = s.wpEnable := rfl
@[simp] theorem driveRes_wpHit : (driveRes b s).wpHit = s.wpHit := rfl
@[simp] theorem driveRes_wpHitAddr : (driveRes b s).wpHitAddr = s.wpHitAddr := rfl
@[simp] theorem driveRes_wpHitType : (driveRes b s).wpHitType = s.wpHitType := rfl
@[simp] theorem driveRes_tickCount : (driveRes b s).tickCount = s.tickCount := rfl
@[simp] theorem driveRes_anchor : (driveRes b s).anchor = s.anchor := rfl
@[simp] theorem driveRes_anchorArmed : (driveRes b s).anchorArmed = s.anchorArmed := rfl
@[simp] theorem driveRes_inputs : (driveRes b s).inputs = s.inputs := rfl
@[simp] theorem driveRes_hostq : (driveRes b s).hostq = s.hostq := rfl
@[simp] theorem driveRes_result : (driveRes b s).result = s.result := rfl

end

end Sys2Proof.Machine
end

