-- ==== Sys2Proof/Laws/Ops.lean ====
section
/-! SUPPORT. For each shared operation, what it can do: bytes read after a write, the canonical form kept, and the whole
update of each bus-cycle and debug-match operation as one equation. -/

namespace Sys2Proof.Machine

/-! ### Bytes -/

theorem toNat_eq_iff {n : Nat} (a b : BitVec n) : a.toNat = b.toNat ↔ a = b := BitVec.toNat_inj

@[simp] theorem readMem_writeMem (a b : Addr) (v : Byte) (s : State) :
    readMem b (writeMem a v s) = if b = a then v else readMem b s := by
  simp [readMem, toNat_eq_iff]

@[simp] theorem readFb_writeFb (i j : Byte) (v : Byte) (s : State) :
    readFb j (writeFb i v s) = if j = i then v else readFb j s := by
  simp [readFb, toNat_eq_iff]

@[simp] theorem readBp_writeBp (a b : Addr) (v : Bool) (s : State) :
    readBp b (writeBp a v s) = if b = a then v else readBp b s := by
  simp [readBp, toNat_eq_iff]

@[simp] theorem readWpWrite_writeWp (w r : Bool) (a b : Addr) (v : Bool) (s : State) :
    readWpWrite b (writeWp w r a v s) = if w = true ∧ b = a then v else readWpWrite b s := by
  cases w <;> simp [readWpWrite, toNat_eq_iff]

@[simp] theorem readWpRead_writeWp (w r : Bool) (a b : Addr) (v : Bool) (s : State) :
    readWpRead b (writeWp w r a v s) = if r = true ∧ b = a then v else readWpRead b s := by
  cases r <;> simp [readWpRead, toNat_eq_iff]

/-- The cell after an access, from its value before (41_tty_irq R172). -/
theorem irqCell_irqLiveness (s : State) :
    irqCell (irqLiveness s) = (irqCell s &&& 0xFD) ||| (if ttyPending s then ttyIrqMask else 0x00) := by
  unfold irqLiveness irqCell
  rw [readMem_writeMem, if_pos rfl]

/-- IrqLiveness leaves every other byte alone. -/
theorem readMem_irqLiveness {b : Addr} (h : b ≠ irqCellAddr) (s : State) :
    readMem b (irqLiveness s) = readMem b s := by
  unfold irqLiveness; rw [readMem_writeMem, if_neg h]

/-! ### The canonical form -/

theorem wf_mem_write (a : Addr) (v : Byte) {m : Memory} (h : m.wf memSize = true) :
    (m.write a.toNat v).wf memSize = true := Memory.wf_write v a.isLt h

theorem wf_fb_write (i : Byte) (v : Byte) {m : Memory} (h : m.wf fbSize = true) :
    (m.write i.toNat v).wf fbSize = true := Memory.wf_write v i.isLt h

theorem wf_table_write (a : Addr) (b : Bool) {t : BitTable} (h : t.wf memSize = true) :
    (t.write a.toNat b).wf memSize = true := BitTable.wf_write b a.isLt h

theorem reset_mem_wf : Memory.wf memSize State.reset.mem = true := rfl

theorem reset_fb_wf : Memory.wf fbSize State.reset.fb = true := rfl

/-! ### The classes of a cycle -/

/-- A bus-cycle class changes the two arrays, the queue, the sink and DATA, and nothing else (40_bus_fabric R125). -/
theorem classEffect_bus {i : Instr} (h : i.port = .bus) (s : State) :
    classEffect i s = { s with
      mem := (classEffect i s).mem, fb := (classEffect i s).fb, ttyq := (classEffect i s).ttyq,
      ttyOut := (classEffect i s).ttyOut, pins := { s.pins with data := (classEffect i s).pins.data } } := by
  cases i <;> first | rfl | (exact absurd h (by simp [Instr.port]))

/-- A debug-match class changes the two hit latches and nothing else. -/
theorem classEffect_debug {i : Instr} (h : i.port = .debug) (s : State) :
    classEffect i s = { s with
      bpHit := (classEffect i s).bpHit, bpHitAddr := (classEffect i s).bpHitAddr, wpHit := (classEffect i s).wpHit,
      wpHitAddr := (classEffect i s).wpHitAddr, wpHitType := (classEffect i s).wpHitType } := by
  cases i with
  | bpMatch w a => simp only [classEffect, bpCheck]; split <;> rfl
  | wpwMatch y a => simp only [classEffect, wpWriteCheck]; split <;> rfl
  | wprMatch a => simp only [classEffect, wpReadCheck]; split <;> rfl
  | _ => exact absurd h (by simp [Instr.port])

/-- Every bus-cycle class keeps the canonical form of `mem` and `fb`. -/
theorem classEffect_wf (i : Instr) {s : State} (hm : s.mem.wf memSize = true) (hf : s.fb.wf fbSize = true) :
    (classEffect i s).mem.wf memSize = true ∧ (classEffect i s).fb.wf fbSize = true := by
  cases i
  case bpMatch => simp only [classEffect, bpCheck]; split <;> exact ⟨hm, hf⟩
  case wpwMatch => simp only [classEffect, wpWriteCheck]; split <;> exact ⟨hm, hf⟩
  case wprMatch => simp only [classEffect, wpReadCheck]; split <;> exact ⟨hm, hf⟩
  all_goals
    first
    | exact ⟨hm, hf⟩
    | exact ⟨wf_mem_write _ _ hm, hf⟩
    | exact ⟨wf_mem_write _ _ hm, wf_fb_write _ _ hf⟩
    | exact ⟨wf_mem_write _ _ (wf_mem_write _ _ hm), hf⟩

/-- exec answers a class of a cycle with the operation that the tick runs for it. -/
theorem exec_class {i : Instr} (h : i.port ≠ .host) (s : State) : exec i s = .next (classEffect i s) := by
  cases i <;> first | rfl | (exact absurd rfl h)

/-! ### The host's backdoor -/

theorem inFbRange_iff (a : Addr) : inFbRange a = true ↔ a &&& 0xFF00 = fbBase := by simp [inFbRange]

/-- MEM_WRITE changes the two arrays only (44_host_access R261). -/
theorem backdoorWrite_eq (a : Addr) (d : Byte) (s : State) :
    backdoorWrite a d s = { s with
      mem := s.mem.write a.toNat d
      fb := if s.cfg.hostWriteFbMirror = true ∧ inFbRange a = true then s.fb.write (fbIndex a).toNat d else s.fb } := by
  unfold backdoorWrite; dsimp only; split <;> rfl

theorem backdoorWriteList_cfg (bs : List Byte) (a : Addr) (s : State) :
    (backdoorWriteList a bs s).cfg = s.cfg := by
  induction bs generalizing a s with
  | nil => rfl
  | cons b bs ih => rw [backdoorWriteList, ih, backdoorWrite_eq]

/-- A block write changes the two arrays only. -/
theorem backdoorWriteList_eq (bs : List Byte) (a : Addr) (s : State) :
    backdoorWriteList a bs s = { s with
      mem := (backdoorWriteList a bs s).mem, fb := (backdoorWriteList a bs s).fb } := by
  induction bs generalizing a s with
  | nil => rfl
  | cons b bs ih =>
    rw [backdoorWriteList]
    conv_lhs => rw [ih, backdoorWrite_eq]
    rw [backdoorWrite_eq]

/-- The backing array after a block write that fits. -/
theorem backdoorWriteList_mem (bs : List Byte) (a : Addr) (s : State) (h : a.toNat + bs.length ≤ memSize) :
    (backdoorWriteList a bs s).mem = s.mem.writeList a.toNat bs := by
  induction bs generalizing a s with
  | nil => rfl
  | cons b bs ih =>
    simp only [List.length_cons, memSize] at h
    cases bs with
    | nil => simp [backdoorWriteList, backdoorWrite_eq, Memory.writeList]
    | cons c cs =>
      have ha : (a + 1).toNat = a.toNat + 1 := by
        rw [BitVec.toNat_add]; simp only [List.length_cons] at h; simp; omega
      rw [backdoorWriteList, ih _ _ (by simp only [ha, memSize]; omega), backdoorWrite_eq, ha]
      rfl

end Sys2Proof.Machine
end

