-- ==== Sys2Proof/Laws/PerInstr.lean ====
section
/-! SUPPORT. The family EncodedPort: the encoder puts every operation at the port of its kind (00_scope R3). -/

namespace Sys2Proof

/-- The port at which an encoded word stands. -/
def Encoded.port : Encoded → Port
  | .bus _ _ => .bus
  | .debug _ => .debug
  | .host _ => .host

/-- The encoder puts the operation at the port of its kind. -/
def Laws.EncodedPort.Statement (i : Instr) : Prop := (encode i).port = i.port

theorem Laws.EncodedPort.rdFb (sync : Bool) (i : Byte) : Laws.EncodedPort.Statement (.rdFb sync i) := rfl
theorem Laws.EncodedPort.wrFb (sync : Bool) (i : Byte) (d : Byte) : Laws.EncodedPort.Statement (.wrFb sync i d) := rfl
theorem Laws.EncodedPort.rdTtyOstat (sync : Bool) : Laws.EncodedPort.Statement (.rdTtyOstat sync) := rfl
theorem Laws.EncodedPort.wrTtyOstat (sync : Bool) (d : Byte) : Laws.EncodedPort.Statement (.wrTtyOstat sync d) := rfl
theorem Laws.EncodedPort.rdTtyOdata (sync : Bool) : Laws.EncodedPort.Statement (.rdTtyOdata sync) := rfl
theorem Laws.EncodedPort.wrTtyOdata (sync : Bool) (d : Byte) : Laws.EncodedPort.Statement (.wrTtyOdata sync d) := rfl
theorem Laws.EncodedPort.rdTtyIstat (sync : Bool) : Laws.EncodedPort.Statement (.rdTtyIstat sync) := rfl
theorem Laws.EncodedPort.wrTtyIstat (sync : Bool) (d : Byte) : Laws.EncodedPort.Statement (.wrTtyIstat sync d) := rfl
theorem Laws.EncodedPort.rdTtyIdata (sync : Bool) : Laws.EncodedPort.Statement (.rdTtyIdata sync) := rfl
theorem Laws.EncodedPort.wrTtyIdata (sync : Bool) (d : Byte) : Laws.EncodedPort.Statement (.wrTtyIdata sync d) := rfl
theorem Laws.EncodedPort.rdTtyRsvd (sync : Bool) (r : BitVec 4) : Laws.EncodedPort.Statement (.rdTtyRsvd sync r) := rfl
theorem Laws.EncodedPort.wrTtyRsvd (sync : Bool) (r : BitVec 4) (d : Byte) : Laws.EncodedPort.Statement (.wrTtyRsvd sync r d) := rfl
theorem Laws.EncodedPort.rdIrqcell (sync : Bool) : Laws.EncodedPort.Statement (.rdIrqcell sync) := rfl
theorem Laws.EncodedPort.wrIrqcell (sync : Bool) (d : Byte) : Laws.EncodedPort.Statement (.wrIrqcell sync d) := rfl
theorem Laws.EncodedPort.rdRam (sync : Bool) (a : Addr) : Laws.EncodedPort.Statement (.rdRam sync a) := rfl
theorem Laws.EncodedPort.wrRam (sync : Bool) (a : Addr) (d : Byte) : Laws.EncodedPort.Statement (.wrRam sync a d) := rfl
theorem Laws.EncodedPort.bpMatch (rw : Bool) (a : Addr) : Laws.EncodedPort.Statement (.bpMatch rw a) := rfl
theorem Laws.EncodedPort.wpwMatch (sync : Bool) (a : Addr) : Laws.EncodedPort.Statement (.wpwMatch sync a) := rfl
theorem Laws.EncodedPort.wprMatch (a : Addr) : Laws.EncodedPort.Statement (.wprMatch a) := rfl
theorem Laws.EncodedPort.tick (input : List Byte) : Laws.EncodedPort.Statement (.tick input) := rfl
theorem Laws.EncodedPort.step : Laws.EncodedPort.Statement (.step) := rfl
theorem Laws.EncodedPort.run (budget : Nat) : Laws.EncodedPort.Statement (.run budget) := rfl
theorem Laws.EncodedPort.reset (input : List Byte) : Laws.EncodedPort.Statement (.reset input) := rfl
theorem Laws.EncodedPort.loadRom (image : List Byte) : Laws.EncodedPort.Statement (.loadRom image) := rfl
theorem Laws.EncodedPort.getTicks : Laws.EncodedPort.Statement (.getTicks) := rfl
theorem Laws.EncodedPort.anchorRealign : Laws.EncodedPort.Statement (.anchorRealign) := rfl
theorem Laws.EncodedPort.getAnchor : Laws.EncodedPort.Statement (.getAnchor) := rfl
theorem Laws.EncodedPort.setBp (a : Addr) : Laws.EncodedPort.Statement (.setBp a) := rfl
theorem Laws.EncodedPort.clrBp (a : Addr) : Laws.EncodedPort.Statement (.clrBp a) := rfl
theorem Laws.EncodedPort.setWp (a : Addr) (kind : Byte) : Laws.EncodedPort.Statement (.setWp a kind) := rfl
theorem Laws.EncodedPort.clrWp (a : Addr) (kind : Byte) : Laws.EncodedPort.Statement (.clrWp a kind) := rfl
theorem Laws.EncodedPort.enableBp (b : Bool) : Laws.EncodedPort.Statement (.enableBp b) := rfl
theorem Laws.EncodedPort.enableWp (b : Bool) : Laws.EncodedPort.Statement (.enableWp b) := rfl
theorem Laws.EncodedPort.getBpHit : Laws.EncodedPort.Statement (.getBpHit) := rfl
theorem Laws.EncodedPort.getBpHitAddr : Laws.EncodedPort.Statement (.getBpHitAddr) := rfl
theorem Laws.EncodedPort.clrBpHit : Laws.EncodedPort.Statement (.clrBpHit) := rfl
theorem Laws.EncodedPort.getWpHit : Laws.EncodedPort.Statement (.getWpHit) := rfl
theorem Laws.EncodedPort.getWpHitAddr : Laws.EncodedPort.Statement (.getWpHitAddr) := rfl
theorem Laws.EncodedPort.getWpHitType : Laws.EncodedPort.Statement (.getWpHitType) := rfl
theorem Laws.EncodedPort.clrWpHit : Laws.EncodedPort.Statement (.clrWpHit) := rfl
theorem Laws.EncodedPort.insertZ (kind : Byte) (a : Addr) : Laws.EncodedPort.Statement (.insertZ kind a) := rfl
theorem Laws.EncodedPort.removeZ (kind : Byte) (a : Addr) : Laws.EncodedPort.Statement (.removeZ kind a) := rfl
theorem Laws.EncodedPort.memRead (a : Addr) : Laws.EncodedPort.Statement (.memRead a) := rfl
theorem Laws.EncodedPort.memWrite (a : Addr) (d : Byte) : Laws.EncodedPort.Statement (.memWrite a d) := rfl
theorem Laws.EncodedPort.memReadBlock (a : Addr) (len : Nat) : Laws.EncodedPort.Statement (.memReadBlock a len) := rfl
theorem Laws.EncodedPort.memWriteBlock (a : Addr) (data : List Byte) : Laws.EncodedPort.Statement (.memWriteBlock a data) := rfl
theorem Laws.EncodedPort.fbRead (i : Byte) : Laws.EncodedPort.Statement (.fbRead i) := rfl
theorem Laws.EncodedPort.fbWrite (i : Byte) (d : Byte) : Laws.EncodedPort.Statement (.fbWrite i d) := rfl
theorem Laws.EncodedPort.ttyInject (b : Byte) : Laws.EncodedPort.Statement (.ttyInject b) := rfl
theorem Laws.EncodedPort.ttyReset : Laws.EncodedPort.Statement (.ttyReset) := rfl
theorem Laws.EncodedPort.ttyCount : Laws.EncodedPort.Statement (.ttyCount) := rfl

end Sys2Proof
end

