-- ==== Sys2Proof/Laws/Tick.lean ====
section
/-! SUPPORT. What the matchers, the bus access and a whole tick can do (40_bus_fabric R120): one equation each. -/

namespace Sys2Proof.Machine

/-- The router gives a bus-cycle class to every cycle (30_encoding R92). -/
theorem exists_bus_class (k : CycleKey) (d : Byte) : ∃ i, decodeBus k d = .ok i ∧ i.port = .bus := by
  rw [decodeBus_eq, decodeBus_mkKey]
  refine ⟨_, rfl, ?_⟩
  repeat' split
  all_goals rfl

/-- Steps 8 and 9 run the routed class. -/
theorem runBusCycle_class (s : State) :
    ∃ i, decodeBus (cycleKey s.pins) s.pins.data = .ok i ∧ i.port = .bus ∧ runBusCycle s = classEffect i s := by
  obtain ⟨i, h, hp⟩ := exists_bus_class (cycleKey s.pins) s.pins.data
  exact ⟨i, h, hp, by simp [runBusCycle, h]⟩

/-- Steps 4 and 5, by the SYNC and RW bits of the cycle (30_encoding R97). -/
theorem runMatchers_eq (s : State) :
    runMatchers s =
      match s.pins.sync, s.pins.rw with
      | true, true => bpCheck s.pins.addr s
      | true, false => wpWriteCheck s.pins.addr (bpCheck s.pins.addr s)
      | false, true => wpReadCheck s.pins.addr s
      | false, false => wpWriteCheck s.pins.addr s := by
  simp only [runMatchers, cycleKey, decodeDebug_mkKey]
  cases s.pins.sync <;> cases s.pins.rw <;> rfl

/-- The matchers change the two hit latches only. -/
theorem runMatchers_frame (s : State) :
    runMatchers s = { s with
      bpHit := (runMatchers s).bpHit, bpHitAddr := (runMatchers s).bpHitAddr, wpHit := (runMatchers s).wpHit,
      wpHitAddr := (runMatchers s).wpHitAddr, wpHitType := (runMatchers s).wpHitType } := by
  rw [runMatchers_eq]
  unfold bpCheck wpWriteCheck wpReadCheck
  split <;> repeat' split
  all_goals rfl

/-- The bus access changes the two arrays, the queue, the sink and DATA only. -/
theorem runBusCycle_frame (s : State) :
    runBusCycle s = { s with
      mem := (runBusCycle s).mem, fb := (runBusCycle s).fb, ttyq := (runBusCycle s).ttyq,
      ttyOut := (runBusCycle s).ttyOut, pins := { s.pins with data := (runBusCycle s).pins.data } } := by
  obtain ⟨i, _, hp, h⟩ := runBusCycle_class s
  rw [h]; exact classEffect_bus hp s

/-- What every field of the state is when the bus access of a tick begins, where the matchers and the pump leave it. -/
theorem tickToAccess_frame (input : List Byte) (s : State) :
    tickToAccess input s = { s with
      mem := (tickToAccess input s).mem
      ttyq := s.ttyq ++ input
      cpu := (cpuTick s.cpu s.pins).1
      pins := { (cpuTick s.cpu s.pins).2 with irq := (tickToAccess input s).pins.irq, nmi := false }
      bpHit := (tickToAccess input s).bpHit
      bpHitAddr := (tickToAccess input s).bpHitAddr
      wpHit := (tickToAccess input s).wpHit
      wpHitAddr := (tickToAccess input s).wpHitAddr
      wpHitType := (tickToAccess input s).wpHitType
      anchor := (tickToAccess input s).anchor
      anchorArmed := (tickToAccess input s).anchorArmed } := by
  unfold tickToAccess pump tickStart
  rw [runMatchers_frame]
  rfl

/-- A tick changes the arrays, the queue, the sink, the pins, the CPU, the latches, the anchor and the counter; the
configuration, the debug tables, the enables and the host port's fields stay. -/
theorem tick_frame (input : List Byte) (s : State) :
    tick input s = { s with
      mem := (tick input s).mem
      fb := (tick input s).fb
      ttyq := (tick input s).ttyq
      ttyOut := (tick input s).ttyOut
      cpu := (cpuTick s.cpu s.pins).1
      pins := (tick input s).pins
      bpHit := (tick input s).bpHit
      bpHitAddr := (tick input s).bpHitAddr
      wpHit := (tick input s).wpHit
      wpHitAddr := (tick input s).wpHitAddr
      wpHitType := (tick input s).wpHitType
      tickCount := s.tickCount + 1
      anchor := (tick input s).anchor
      anchorArmed := (tick input s).anchorArmed } := by
  unfold tick countTick
  rw [runBusCycle_frame, tickToAccess_frame]

/-- The CPU records the pin word it was driven with. -/
@[simp] theorem cpuTick_seen (c : CpuState) (p : Pins) : (cpuTick c p).1.seen = c.seen ++ [p] := by
  unfold cpuTick; split <;> rfl

theorem tickDrawn_eq (s : State) :
    tickDrawn s = tick (s.inputs.headD []) { s with inputs := s.inputs.tail } := rfl

@[simp] theorem runTicks_zero (s : State) : runTicks 0 s = s := rfl

theorem runTicks_succ (n : Nat) (s : State) : runTicks (n + 1) s = runTicks n (tickDrawn s) := rfl

theorem runTicks_succ_last (n : Nat) (s : State) : runTicks (n + 1) s = tickDrawn (runTicks n s) := by
  induction n generalizing s with
  | zero => rfl
  | succ n ih => rw [runTicks_succ, ih, runTicks_succ]

/-- A tick of STEP or RUN takes one draw and no other (43_step_reset R231, R233). -/
@[simp] theorem tickDrawn_inputs (s : State) : (tickDrawn s).inputs = s.inputs.tail := by
  rw [tickDrawn_eq, tick_frame]

@[simp] theorem tickDrawn_tickCount (s : State) : (tickDrawn s).tickCount = s.tickCount + 1 := by
  rw [tickDrawn_eq, tick_frame]

/-- `n` ticks take the first `n` draws. -/
@[simp] theorem runTicks_inputs (n : Nat) (s : State) : (runTicks n s).inputs = s.inputs.drop n := by
  induction n generalizing s with
  | zero => rfl
  | succ n ih => rw [runTicks_succ, ih, tickDrawn_inputs, List.drop_tail]

@[simp] theorem runTicks_tickCount (n : Nat) (s : State) : (runTicks n s).tickCount = s.tickCount + n := by
  induction n generalizing s with
  | zero => rfl
  | succ n ih => rw [runTicks_succ, ih, tickDrawn_tickCount]; omega

/-- An induction packaged once: what one tick keeps, any number of ticks keeps. -/
theorem runTicks_induction {P : State → Prop} (h : ∀ s, P s → P (tickDrawn s)) (n : Nat) {s : State} (hs : P s) :
    P (runTicks n s) := by
  induction n generalizing s with
  | zero => exact hs
  | succ n ih => exact ih (h s hs)

/-- STEP's loop stops after some number of ticks (43_step_reset R231). -/
theorem stepLoop_runTicks (k : Nat) (s : State) : ∃ n, (stepLoop k s).1 = runTicks n s := by
  induction k generalizing s with
  | zero => exact ⟨1, rfl⟩
  | succ k ih =>
    unfold stepLoop
    split
    · exact ⟨1, rfl⟩
    · obtain ⟨n, hn⟩ := ih (tickDrawn s); exact ⟨n + 1, hn⟩

/-- RUN's loop stops after some number of ticks (43_step_reset R233). -/
theorem runLoop_runTicks (fuel k : Nat) (s : State) : ∃ n, (runLoop fuel k s).1 = runTicks n s := by
  induction fuel generalizing k s with
  | zero => exact ⟨0, rfl⟩
  | succ fuel ih =>
    unfold runLoop
    split
    · exact ⟨1, rfl⟩
    · obtain ⟨n, hn⟩ := ih (k + 1) (tickDrawn s); exact ⟨n + 1, hn⟩

end Sys2Proof.Machine
end

