-- ==== Sys2Proof/Laws/Sequencer.lean ====
section
/-! SUPPORT. What RESET prepares, what LOAD_ROM does to every byte, and the two power-on states. -/

namespace Sys2Proof.Machine

/-- LOAD_ROM on every byte (43_step_reset R236). -/
theorem read_loadRomMem {image : List Byte} {m m' : Memory} (h : loadRomMem image m = some m') (b : Nat) :
    m'.read b = if 0xD000 ≤ b ∧ b < 0xD000 + image.length then image.getD (b - 0xD000) 0 else m.read b := by
  unfold loadRomMem at h
  split at h
  · cases h
  · obtain rfl := Option.some.inj h; exact Memory.read_writeList image _ m b

theorem wf_loadRomMem {image : List Byte} {m m' : Memory} (h : loadRomMem image m = some m')
    (hm : m.wf memSize = true) : m'.wf memSize = true := by
  unfold loadRomMem at h
  split at h
  · cases h
  · next hl =>
    obtain rfl := Option.some.inj h
    exact Memory.wf_writeList image _ (by simp only [romMax] at hl; simp [memSize]; omega) hm

theorem wf_reloadRom (cfg : Config) {m : Memory} (hm : m.wf memSize = true) : (reloadRom cfg m).wf memSize = true := by
  unfold reloadRom
  cases h : loadRomMem cfg.romImage m with
  | none => exact hm
  | some m' => exact wf_loadRomMem h hm

/-- What RESET leaves before its tick (43_step_reset R234). -/
theorem resetPrepare_eq (s : State) :
    resetPrepare s = { s with
      ttyq := []
      mem := (resetPrepare s).mem
      pins := { s.pins with res := true } } := rfl

theorem resetPrepare_wf {s : State} (h : s.mem.wf memSize = true) : (resetPrepare s).mem.wf memSize = true := by
  show Memory.wf memSize (if _ then _ else _) = true
  split
  · exact wf_reloadRom _ (wf_mem_write _ _ h)
  · exact wf_mem_write _ _ h

/-- State.reset is the power-on state of 10_state R44 for the default configuration and the named CpuInit. -/
theorem reset_eq_powerOn : State.reset = powerOn defaultConfig (cpuInitState, cpuInitPins) := by decide

end Sys2Proof.Machine
end

