-- ==== Sys2Proof/Tests/Slice0.lean ====
section
/-! SUPPORT. The model's own tests, small and each on one operation. Expected values come from spec/95_test_vectors.md (the
vector's id is named), from the encoding tables (30_encoding R93, R97, R99), or by hand from the rule named. Theorems
named `witness_<obligation>` show a concrete input that meets an obligation's hypotheses. -/

namespace Sys2Proof.Tests

open Sys2Proof.Machine

/-! ### Helpers -/

/-- A pin word with every other pin 0. -/
def cycle (sync rw : Bool) (a : Addr) (d : Byte) : Pins :=
  { addr := a, data := d, rw := rw, sync := sync, irq := false, nmi := false, res := false, other := 0 }

/-- `RD a` of 30_encoding R101. -/
def rd (a : Addr) : Pins := cycle false true a 0
/-- `FETCH a`. -/
def fetch (a : Addr) : Pins := cycle true true a 0
/-- `WR a,d`. -/
def wr (a : Addr) (d : Byte) : Pins := cycle false false a d

/-- The start state S0 of 95_test_vectors section 0, where the scripted CPU will run these cycles. -/
def scripted (ps : List Pins) : State :=
  { State.reset with cpu := { State.reset.cpu with script := ps.map (fun p => { pins := p }) } }

/-- A state whose scripted CPU runs one cycle with the given CpuPC. -/
def scriptedAt (p : Pins) (pc : Addr) : State :=
  { State.reset with cpu := { State.reset.cpu with script := [{ pins := p, pc := pc }] } }

/-- The state after an operation; `none` where it gives no next state. -/
def after (i : Instr) (s : State) : Option State :=
  match exec i s with
  | .next t => some t
  | .fault _ => none
  | .refused _ => none

/-- The state after an operation that gives one. -/
def next (i : Instr) (s : State) : State := (after i s).getD s

/-- What an operation replies. -/
def replyOf (i : Instr) (s : State) : Option HostResult := (after i s).map (fun t => t.result)

/-- A memory of one listed byte. -/
def byteAt (a : Addr) (v : Byte) : Memory := [(a.toNat, v)]

/-- A ROM image of `n` bytes. -/
def image (n : Nat) : List Byte := List.replicate n 0xEA

theorem image_length (n : Nat) : (image n).length = n := List.length_replicate

/-! ### Well-formedness: for each check an ill-formed term that it refuses, beside the boundary it admits -/

theorem test_wf_read_reserved_refuses_3 : (Instr.rdTtyRsvd false 3).wellFormed = false := by decide
theorem test_wf_read_reserved_admits_4 : (Instr.rdTtyRsvd false 4).wellFormed = true := by decide
theorem test_wf_write_reserved_refuses_0 : (Instr.wrTtyRsvd true 0 0xFF).wellFormed = false := by decide
theorem test_wf_write_reserved_admits_15 : (Instr.wrTtyRsvd true 15 0xFF).wellFormed = true := by decide
theorem test_wf_read_ram_refuses_frame_buffer : (Instr.rdRam false 0xC005).wellFormed = false := by decide
theorem test_wf_read_ram_refuses_tty : (Instr.rdRam false 0xC103).wellFormed = false := by decide
theorem test_wf_read_ram_refuses_irq_cell : (Instr.rdRam true 0x00FF).wellFormed = false := by decide
theorem test_wf_read_ram_admits_neighbours :
    (Instr.rdRam false 0xBFFF).wellFormed = true ∧ (Instr.rdRam false 0xC110).wellFormed = true ∧
      (Instr.rdRam false 0x0100).wellFormed = true := by decide
theorem test_wf_write_ram_refuses_frame_buffer : (Instr.wrRam false 0xC0FF 0x01).wellFormed = false := by decide
theorem test_wf_write_ram_refuses_tty : (Instr.wrRam false 0xC10F 0x01).wellFormed = false := by decide
theorem test_wf_write_ram_refuses_irq_cell : (Instr.wrRam false 0x00FF 0x01).wellFormed = false := by decide
theorem test_wf_write_ram_admits_rom_area : (Instr.wrRam false 0xFFFF 0x01).wellFormed = true := by decide
theorem test_wf_config_admits_default : configWellFormed defaultConfig = true := by decide
theorem test_wf_config_refuses_guard_zero : configWellFormed { defaultConfig with stepGuard := 0 } = false := by decide
theorem test_wf_config_refuses_long_image :
    configWellFormed { defaultConfig with romImage := image 0x3001 } = false := by
  simp [configWellFormed, image_length]
theorem test_wf_config_admits_full_image :
    configWellFormed { defaultConfig with romImage := image 0x3000 } = true := by
  simp [configWellFormed, image_length]

/-! ### Decoding: a word of every row, written out from the tables of 30_encoding

A cycle key is SYNC, RW, ADDR[15:8], ADDR[7:0] from the left. -/

theorem test_decode_frame_buffer :
    (decodeBus 0b0_1_11000000_00000101 0x00).toOption = some (.rdFb false 5) ∧
    (decodeBus 0b1_1_11000000_11111111 0x00).toOption = some (.rdFb true 255) ∧
    (decodeBus 0b0_0_11000000_11111111 0x7E).toOption = some (.wrFb false 255 0x7E) := by decide

theorem test_decode_tty_status :
    (decodeBus 0b0_1_11000001_00000000 0x00).toOption = some (.rdTtyOstat false) ∧
    (decodeBus 0b0_0_11000001_00000000 0x55).toOption = some (.wrTtyOstat false 0x55) ∧
    (decodeBus 0b0_1_11000001_00000010 0x00).toOption = some (.rdTtyIstat false) ∧
    (decodeBus 0b1_0_11000001_00000010 0x01).toOption = some (.wrTtyIstat true 0x01) := by decide

theorem test_decode_tty_data :
    (decodeBus 0b0_1_11000001_00000001 0x00).toOption = some (.rdTtyOdata false) ∧
    (decodeBus 0b0_0_11000001_00000001 0x48).toOption = some (.wrTtyOdata false 0x48) ∧
    (decodeBus 0b0_1_11000001_00000011 0x00).toOption = some (.rdTtyIdata false) ∧
    (decodeBus 0b0_0_11000001_00000011 0x99).toOption = some (.wrTtyIdata false 0x99) := by decide

theorem test_decode_tty_reserved :
    (decodeBus 0b0_1_11000001_00000100 0x00).toOption = some (.rdTtyRsvd false 4) ∧
    (decodeBus 0b0_1_11000001_00001111 0x00).toOption = some (.rdTtyRsvd false 15) ∧
    (decodeBus 0b0_0_11000001_00000100 0xFF).toOption = some (.wrTtyRsvd false 4 0xFF) := by decide

theorem test_decode_irq_cell :
    (decodeBus 0b0_1_00000000_11111111 0x00).toOption = some (.rdIrqcell false) ∧
    (decodeBus 0b0_0_00000000_11111111 0x80).toOption = some (.wrIrqcell false 0x80) := by decide

theorem test_decode_ram :
    (decodeBus 0b0_1_00000010_00000000 0x00).toOption = some (.rdRam false 0x0200) ∧
    (decodeBus 0b1_1_11010000_00000000 0x00).toOption = some (.rdRam true 0xD000) ∧
    (decodeBus 0b0_1_11000001_00010000 0x00).toOption = some (.rdRam false 0xC110) ∧
    (decodeBus 0b0_0_11000001_11110011 0x01).toOption = some (.wrRam false 0xC1F3 0x01) ∧
    (decodeBus 0b0_0_00000001_00000000 0x01).toOption = some (.wrRam false 0x0100 0x01) := by decide

theorem test_decode_debug_match :
    decodeDebug 0b1_1_11010000_00000000 = [.bpMatch true 0xD000] ∧
    decodeDebug 0b0_0_00000010_00000000 = [.wpwMatch false 0x0200] ∧
    decodeDebug 0b0_1_00000010_00000000 = [.wprMatch 0x0200] ∧
    decodeDebug 0b1_0_00000010_00000000 = [.bpMatch false 0x0200, .wpwMatch true 0x0200] := by decide

/-- A request with every operand set to a value of its own, to see which ones an operation reads. -/
def fullRequest (code : Byte) : HostRequest :=
  { code := code, addr := 0xABCD, kind := 4, index := 7, value := 0x5A, flag := true, count := 3, bytes := [1, 2] }

theorem test_decode_host_sequencer :
    (decodeHost (fullRequest 0b00000001)).toOption = some (.tick [1, 2]) ∧
    (decodeHost (fullRequest 0b00000010)).toOption = some .step ∧
    (decodeHost (fullRequest 0b00000011)).toOption = some (.run 3) ∧
    (decodeHost (fullRequest 0b00000100)).toOption = some (.reset [1, 2]) ∧
    (decodeHost (fullRequest 0b00000101)).toOption = some (.loadRom [1, 2]) ∧
    (decodeHost (fullRequest 0b00000110)).toOption = some .getTicks ∧
    (decodeHost (fullRequest 0b00000111)).toOption = some .anchorRealign ∧
    (decodeHost (fullRequest 0b00001000)).toOption = some .getAnchor := by decide

theorem test_decode_host_debug_tables :
    (decodeHost (fullRequest 0b00010000)).toOption = some (.setBp 0xABCD) ∧
    (decodeHost (fullRequest 0b00010001)).toOption = some (.clrBp 0xABCD) ∧
    (decodeHost (fullRequest 0b00010010)).toOption = some (.setWp 0xABCD 4) ∧
    (decodeHost (fullRequest 0b00010011)).toOption = some (.clrWp 0xABCD 4) ∧
    (decodeHost (fullRequest 0b00010100)).toOption = some (.enableBp true) ∧
    (decodeHost (fullRequest 0b00010101)).toOption = some (.enableWp true) ∧
    (decodeHost (fullRequest 0b00011101)).toOption = some (.insertZ 4 0xABCD) ∧
    (decodeHost (fullRequest 0b00011110)).toOption = some (.removeZ 4 0xABCD) := by decide

theorem test_decode_host_hit_latches :
    (decodeHost (fullRequest 0b00010110)).toOption = some .getBpHit ∧
    (decodeHost (fullRequest 0b00010111)).toOption = some .getBpHitAddr ∧
    (decodeHost (fullRequest 0b00011000)).toOption = some .clrBpHit ∧
    (decodeHost (fullRequest 0b00011001)).toOption = some .getWpHit ∧
    (decodeHost (fullRequest 0b00011010)).toOption = some .getWpHitAddr ∧
    (decodeHost (fullRequest 0b00011011)).toOption = some .getWpHitType ∧
    (decodeHost (fullRequest 0b00011100)).toOption = some .clrWpHit := by decide

theorem test_decode_host_memory :
    (decodeHost (fullRequest 0b00100000)).toOption = some (.memRead 0xABCD) ∧
    (decodeHost (fullRequest 0b00100001)).toOption = some (.memWrite 0xABCD 0x5A) ∧
    (decodeHost (fullRequest 0b00100010)).toOption = some (.memReadBlock 0xABCD 3) ∧
    (decodeHost (fullRequest 0b00100011)).toOption = some (.memWriteBlock 0xABCD [1, 2]) ∧
    (decodeHost (fullRequest 0b00100100)).toOption = some (.fbRead 7) ∧
    (decodeHost (fullRequest 0b00100101)).toOption = some (.fbWrite 7 0x5A) := by decide

theorem test_decode_host_tty :
    (decodeHost (fullRequest 0b00110000)).toOption = some (.ttyInject 0x5A) ∧
    (decodeHost (fullRequest 0b00110001)).toOption = some .ttyReset ∧
    (decodeHost (fullRequest 0b00110010)).toOption = some .ttyCount := by decide

/-- The codes next to the assigned ranges of R99 are refused. -/
theorem test_decode_host_refuses_gaps :
    [0x00, 0x09, 0x0F, 0x1F, 0x26, 0x2F, 0x33, 0xFF].map (fun c => (decodeHost (fullRequest c)).toOption) =
      List.replicate 8 none := by decide

/-- R90, a pin word packed by hand: `FETCH $D000` with DATA 0xA9 and the IRQ line high. -/
theorem test_pack_pins :
    packPins { addr := 0xD000, data := 0xA9, rw := true, sync := true, irq := true, nmi := false, res := false,
               other := 0 } = 0x07A9D000 := by decide

/-- R90: RES is bit 30; CPU-defined bits 28, 29 and 31 stand around it. -/
theorem test_unpack_pins :
    (unpackPins 0x40000000).res = true ∧ (unpackPins 0xB0000000).other = 7 ∧ (unpackPins 0xB0000000).res = false := by
  decide

/-- The host's two hooks on BUS and HOSTOP words, one each. -/
theorem test_table_word_runs_first :
    decodeTableWord 24 0x0C101 = some (.wrTtyOdata false 0) ∧
    (match step (State.reset.withFetchWord 24 0x0C101) with
      | .next t => some t.ttyOut
      | .fault _ => none
      | .refused _ => none) = some [0x00] := by decide

theorem test_host_word_runs_first :
    (match step (State.reset.withFetchWord 8 0x32) with
      | .next t => some t.result
      | .fault _ => none
      | .refused _ => none) = some (.nat 0) := by decide

/-! ### Bus cycles, through one TICK each (95_test_vectors 2.1) -/

/-- BUS-1. -/
theorem test_tick_rd_ram :
    (after (.tick []) { scripted [rd 0x0200] with mem := byteAt 0x0200 0x55 }).map
      (fun t => (t.pins.data, t.mem, t.tickCount)) = some (0x55, byteAt 0x0200 0x55, 1) := by decide
/-- BUS-4: the ROM area is writable. -/
theorem test_tick_wr_ram :
    (after (.tick []) (scripted [wr 0xE000 0x12])).map (fun t => (t.mem, t.fb)) = some (byteAt 0xE000 0x12, []) := by
  decide
/-- BUS-5. -/
theorem test_tick_rd_fb :
    (after (.tick []) { scripted [rd 0xC005] with fb := [(5, 0x41)] }).map (fun t => t.pins.data) = some 0x41 := by
  decide
/-- BUS-6. -/
theorem test_tick_wr_fb :
    (after (.tick []) (scripted [wr 0xC0FF 0x7E])).map (fun t => (t.mem, t.fb)) =
      some (byteAt 0xC0FF 0x7E, [(255, 0x7E)]) := by decide
/-- BUS-8: no mirror of the TTY at 0xC110; the cell is 0x02. -/
theorem test_tick_no_tty_mirror :
    (after (.tick []) { scripted [rd 0xC110] with mem := byteAt 0xC110 0x33, ttyq := [0x41] }).map
      (fun t => (t.pins.data, t.ttyq, irqCell t)) = some (0x33, [0x41], 0x02) := by decide
/-- BUS-11: a host value of the cell is lost at step 1. -/
theorem test_tick_rd_irqcell :
    (after (.tick []) { scripted [rd 0x00FF] with mem := byteAt 0x00FF 0x80 }).map (fun t => (t.pins.data, t.mem)) =
      some (0x00, []) := by decide
/-- BUS-12, tick 1. -/
theorem test_tick_wr_irqcell :
    (after (.tick []) (scripted [wr 0x00FF 0x80])).map (fun t => (irqCell t, t.pins.irq)) = some (0x80, false) := by
  decide

/-! ### TTY (95_test_vectors 2.2, 2.3) -/

/-- TTY-1: the shadow byte stays. -/
theorem test_tick_rd_tty_ostat :
    (after (.tick []) { scripted [rd 0xC100] with mem := byteAt 0xC100 0x77 }).map (fun t => (t.pins.data, t.mem)) =
      some (0x00, byteAt 0xC100 0x77) := by decide
/-- TTY-2. -/
theorem test_tick_wr_tty_ostat :
    (after (.tick []) (scripted [wr 0xC100 0x55])).map (fun t => (t.mem, t.ttyOut)) =
      some (byteAt 0xC100 0x55, []) := by decide
/-- TTY-3. -/
theorem test_tick_rd_tty_odata :
    (after (.tick []) (scripted [rd 0xC101])).map (fun t => t.pins.data) = some 0xFF := by decide
/-- TTY-4. -/
theorem test_tick_wr_tty_odata :
    (after (.tick []) (scripted [wr 0xC101 0x48])).map (fun t => (t.ttyOut, t.mem)) =
      some ([0x48], byteAt 0xC101 0x48) := by decide
/-- TTY-5a. -/
theorem test_tick_rd_tty_istat_empty :
    (after (.tick []) (scripted [rd 0xC102])).map (fun t => t.pins.data) = some 0x00 := by decide
/-- TTY-5b. -/
theorem test_tick_rd_tty_istat_full :
    (after (.tick []) { scripted [rd 0xC102] with ttyq := [0x41] }).map (fun t => (t.pins.data, t.ttyq)) =
      some (0x01, [0x41]) := by decide
/-- TTY-10. -/
theorem test_tick_wr_tty_istat :
    (after (.tick []) { scripted [wr 0xC102 0x01] with ttyq := [0x41] }).map
      (fun t => (t.ttyq, readMem 0xC102 t, irqCell t)) = some ([0x41], 0x01, 0x02) := by decide
/-- TTY-7: the line was computed before the pop. -/
theorem test_tick_rd_tty_idata :
    (after (.tick []) { scripted [rd 0xC103] with ttyq := [0x41] }).map
      (fun t => (t.pins.data, t.ttyq, irqCell t, t.pins.irq)) = some (0x41, [], 0x00, true) := by decide
/-- TTY-13: pumped and popped in the same tick. -/
theorem test_tick_rd_tty_idata_pumped :
    (after (.tick [0x5A]) (scripted [rd 0xC103])).map (fun t => (t.pins.data, t.ttyq, irqCell t, t.pins.irq)) =
      some (0x5A, [], 0x00, true) := by decide
/-- TTY-9. -/
theorem test_tick_wr_tty_idata :
    (after (.tick []) (scripted [wr 0xC103 0x99])).map (fun t => (t.ttyq, t.mem)) =
      some ([], byteAt 0xC103 0x99) := by decide
/-- TTY-11a, with a shadow byte behind the register. -/
theorem test_tick_rd_tty_rsvd :
    (after (.tick []) { scripted [rd 0xC10F] with mem := byteAt 0xC10F 0x12 }).map (fun t => t.pins.data) =
      some 0x00 := by decide
/-- TTY-11b. -/
theorem test_tick_wr_tty_rsvd :
    (after (.tick []) (scripted [wr 0xC104 0xFF])).map (fun t => (t.mem, t.ttyOut, t.ttyq)) =
      some (byteAt 0xC104 0xFF, [], []) := by decide
/-- IRQ-2b. -/
theorem test_tick_legacy_polarity :
    (after (.tick []) { scripted [rd 0x0000] with
        cfg := { defaultConfig with irqPinPolarity := .legacyInverted }, ttyq := [0x41] }).map
      (fun t => (irqCell t, t.pins.irq)) = some (0x02, false) := by decide
/-- TTY-14: the line is not touched. -/
theorem test_tty_inject :
    (after (.ttyInject 0x41) State.reset).map (fun t => (t.ttyq, irqCell t, t.pins.irq)) =
      some ([0x41], 0x02, false) := by decide
/-- TTY-15. -/
theorem test_tty_reset :
    (after .ttyReset { State.reset with ttyq := [0x01, 0x02], mem := byteAt 0x00FF 0x02 }).map
      (fun t => (t.ttyq, t.mem)) = some ([], []) := by decide
/-- TTY-16. -/
theorem test_tty_count : replyOf .ttyCount { State.reset with ttyq := [0x41, 0x42] } = some (.nat 2) := by decide

/-! ### Debug matcher (95_test_vectors 2.4) -/

/-- A breakpoint table with one entry. -/
def entryAt (a : Addr) : BitTable := [(a.toNat, true)]

/-- DBG-1. -/
theorem test_bp_match_disabled :
    (after (.bpMatch true 0xD000) { State.reset with bp := entryAt 0xD000 }).map (fun t => t.bpHit) = some false := by
  decide
/-- DBG-2. -/
theorem test_bp_match_enabled :
    (after (.tick []) { scripted [fetch 0xD000] with bp := entryAt 0xD000, bpEnable := true }).map
      (fun t => (t.bpHit, t.bpHitAddr)) = some (true, 0xD000) := by decide
/-- DBG-5: the write is not cancelled. -/
theorem test_wpw_match :
    (after (.tick []) { scripted [wr 0x0200 0x55] with wpWrite := entryAt 0x0200, wpEnable := true }).map
      (fun t => (t.wpHit, t.wpHitAddr, t.wpHitType, readMem 0x0200 t)) = some (true, 0x0200, 2, 0x55) := by decide
/-- DBG-7c. -/
theorem test_wpw_match_both_tables :
    (after (.wpwMatch false 0x0200) { State.reset with
        cfg := { defaultConfig with wpAccessTypeReport := .bothTables4 },
        wpWrite := entryAt 0x0200, wpRead := entryAt 0x0200, wpEnable := true }).map (fun t => t.wpHitType) =
      some 4 := by decide
/-- DBG-6a. -/
theorem test_wpr_match :
    (after (.tick []) { scripted [rd 0x0200] with wpRead := entryAt 0x0200, wpEnable := true }).map
      (fun t => (t.wpHit, t.wpHitType)) = some (true, 3) := by decide
/-- DBG-6b: an opcode fetch is no watched read. -/
theorem test_wpr_match_not_on_fetch :
    (after (.tick []) { scripted [fetch 0x0200] with wpRead := entryAt 0x0200, wpEnable := true }).map
      (fun t => t.wpHit) = some false := by decide
/-- DBG-9b, second write: under policy first the address stays. -/
theorem test_wpw_match_first_policy :
    (after (.wpwMatch false 0x0201) { State.reset with
        cfg := { defaultConfig with hitLatchPolicy := .first },
        wpWrite := entryAt 0x0201, wpEnable := true, wpHit := true, wpHitAddr := 0x0200, wpHitType := 2 }).map
      (fun t => t.wpHitAddr) = some 0x0200 := by decide
theorem test_set_bp : (after (.setBp 0xD000) State.reset).map (fun t => t.bp) = some (entryAt 0xD000) := by decide
/-- DBG-17. -/
theorem test_clr_bp :
    (after (.clrBp 0xD000) { State.reset with bp := entryAt 0xD000, bpHit := true }).map (fun t => (t.bp, t.bpHit)) =
      some ([], true) := by decide
theorem test_set_wp_both :
    (after (.setWp 0x0200 4) State.reset).map (fun t => (t.wpWrite, t.wpRead, t.result)) =
      some (entryAt 0x0200, entryAt 0x0200, .ok) := by decide
/-- DBG-11. -/
theorem test_set_wp_unsupported : replyOf (.setWp 0x0200 5) State.reset = some .unsupported := by decide
/-- DBG-8. -/
theorem test_clr_wp_write_only :
    (after (.clrWp 0x0200 2) { State.reset with wpWrite := entryAt 0x0200, wpRead := entryAt 0x0200 }).map
      (fun t => (t.wpWrite, t.wpRead)) = some ([], entryAt 0x0200) := by decide
theorem test_enable_bp :
    (after (.enableBp true) State.reset).map (fun t => (t.bpEnable, t.wpEnable)) = some (true, false) := by decide
theorem test_enable_wp :
    (after (.enableWp true) State.reset).map (fun t => (t.bpEnable, t.wpEnable)) = some (false, true) := by decide
theorem test_get_bp_hit : replyOf .getBpHit { State.reset with bpHit := true } = some (.bool true) := by decide
/-- DBG-16. -/
theorem test_get_bp_hit_addr : replyOf .getBpHitAddr State.reset = some (.addr 0x0000) := by decide
theorem test_clr_bp_hit :
    (after .clrBpHit { State.reset with bpHit := true, bpHitAddr := 0xD000 }).map (fun t => (t.bpHit, t.bpHitAddr)) =
      some (false, 0xD000) := by decide
theorem test_get_wp_hit : replyOf .getWpHit { State.reset with wpHit := true } = some (.bool true) := by decide
theorem test_get_wp_hit_addr : replyOf .getWpHitAddr { State.reset with wpHitAddr := 0x0201 } = some (.addr 0x0201) := by
  decide
/-- DBG-10: the type outlives the flag. -/
theorem test_get_wp_hit_type : replyOf .getWpHitType { State.reset with wpHitType := 2 } = some (.byte 2) := by decide
theorem test_clr_wp_hit :
    (after .clrWpHit { State.reset with wpHit := true, wpHitAddr := 0x0201, wpHitType := 2 }).map
      (fun t => (t.wpHit, t.wpHitAddr, t.wpHitType)) = some (false, 0x0201, 2) := by decide
/-- DBG-12. -/
theorem test_insert_z : (after (.insertZ 1 0xD000) State.reset).map (fun t => (t.bp, t.result)) =
    some (entryAt 0xD000, .ok) := by decide
/-- DBG-13. -/
theorem test_insert_z_unsupported : replyOf (.insertZ 7 0xD000) State.reset = some .unsupported := by decide
/-- DBG-12. -/
theorem test_remove_z :
    (after (.removeZ 0 0xD000) { State.reset with bp := entryAt 0xD000 }).map (fun t => (t.bp, t.result)) =
      some ([], .ok) := by decide

/-! ### Sequencer (95_test_vectors 2.5 to 2.7, 2.9) -/

/-- STP-1. -/
theorem test_step_to_sync :
    (after .step (scripted [rd 0xD001, fetch 0xD002])).map (fun t => (t.result, t.tickCount)) =
      some (.signal .sigtrap, 2) := by decide
/-- STP-5. -/
theorem test_step_guard :
    (after .step { scripted [rd 0xD001] with cfg := { defaultConfig with stepGuard := 1 } }).map
      (fun t => (t.result, t.tickCount)) = some (.signal .sigill, 1) := by decide
/-- RUN-3: a stale latch ends the run after one tick. -/
theorem test_run_stale_hit :
    (after (.run 100) { scripted [fetch 0xD000] with bpHit := true }).map (fun t => t.result) =
      some (.run { stopped := true, ticks := 1, bp := true, wp := false }) := by decide
/-- RUN-4. -/
theorem test_run_zero : (after (.run 0) State.reset).map (fun t => (t.result, t.tickCount)) =
    some (.run { stopped := false, ticks := 0, bp := false, wp := false }, 0) := by decide
/-- RUN-5: the host's report names the breakpoint first. -/
theorem test_stop_reports :
    stopReports { State.reset with bpHit := true, bpHitAddr := 0xD000, wpHit := true, wpHitAddr := 0x0200, wpHitType := 2 } =
      [.breakpoint 5 0xD000, .watchpoint 0x0200 2] := by decide
/-- The start state of RST-1. -/
def beforeReset : State :=
  { scripted [rd 0x0000] with
    ttyq := [0x41], mem := [(0x00FF, 0x02), (0x0300, 0x99)], fb := [(0, 0x42)], tickCount := 10, bpHit := true }

/-- RST-1: the CPU saw RES = 1 on the reset tick. -/
theorem test_reset_keeps :
    (after (.reset []) beforeReset).map (fun t => (t.ttyq, t.tickCount, t.bpHit)) = some ([], 11, true) ∧
    (after (.reset []) beforeReset).map (fun t => (t.mem, t.fb)) = some (byteAt 0x0300 0x99, [(0, 0x42)]) ∧
    (after (.reset []) beforeReset).map (fun t => (t.pins.res, t.cpu.seen.map (fun p => p.res))) =
      some (false, [true]) := by decide
/-- RST-2. -/
theorem test_reset_reloads_rom :
    (after (.reset []) { scripted [rd 0x0000] with
        cfg := { defaultConfig with reloadRomOnReset := true, romImage := [0xEA] } }).map (fun t => t.mem) =
      some (byteAt 0xD000 0xEA) := by decide
/-- RST-5. -/
theorem test_load_rom :
    (after (.loadRom [0xA9, 0x55]) State.reset).map (fun t => (t.result, t.mem)) =
      some (.ok, [(0xD000, 0xA9), (0xD001, 0x55)]) := by decide
/-- RST-4. -/
theorem test_load_rom_refused : replyOf (.loadRom (image 0x3001)) State.reset = some .refused := by
  simp [replyOf, after, exec, execLoadRom, loadRomMem, reply, image_length]
/-- TCK-2. -/
theorem test_get_ticks : replyOf .getTicks { State.reset with tickCount := 16 } = some (.nat 16) := by decide
/-- ANC-1. -/
theorem test_anchor_taken :
    (after (.tick []) (scriptedAt (fetch 0xD000) 0xD000)).map (fun t => (t.anchor, t.anchorArmed)) =
      some (0xD000, false) := by decide
/-- ANC-3, tick 1: armed, not taken. -/
theorem test_anchor_armed :
    (after (.tick []) { scriptedAt (fetch 0xD005) 0xD004 with anchor := 0xD000, anchorArmed := false }).map
      (fun t => (t.anchor, t.anchorArmed)) = some (0xD000, true) := by decide
theorem test_anchor_realign :
    (after .anchorRealign { State.reset with anchorArmed := false }).map (fun t => t.anchorArmed) = some true := by decide
/-- ANC-5. -/
theorem test_get_anchor : replyOf .getAnchor { State.reset with anchor := 0xD000 } = some (.addr 0xD000) := by decide

/-! ### Host access (95_test_vectors 2.8) -/

/-- HST-1: the shadow byte, and no pop. -/
theorem test_mem_read :
    (after (.memRead 0xC103) { State.reset with ttyq := [0x41] }).map (fun t => (t.result, t.ttyq)) =
      some (.byte 0x00, [0x41]) := by decide
/-- HST-4a. -/
theorem test_mem_write_no_mirror :
    (after (.memWrite 0xC000 0x42) State.reset).map (fun t => (t.mem, t.fb)) = some (byteAt 0xC000 0x42, []) := by decide
/-- HST-4b. -/
theorem test_mem_write_mirror :
    (after (.memWrite 0xC000 0x42) { State.reset with cfg := { defaultConfig with hostWriteFbMirror := true } }).map
      (fun t => (t.mem, t.fb)) = some (byteAt 0xC000 0x42, [(0, 0x42)]) := by decide
/-- HST-2a. -/
theorem test_mem_read_block :
    replyOf (.memReadBlock 0xFFFF 1) { State.reset with mem := byteAt 0xFFFF 0x7F } = some (.bytes [0x7F]) := by decide
/-- HST-2b. -/
theorem test_mem_read_block_range : replyOf (.memReadBlock 0xFFFF 2) State.reset = some .rangeError := by decide
/-- HST-3. -/
theorem test_mem_write_block_range :
    (after (.memWriteBlock 0xFFFE [1, 2, 3]) State.reset).map (fun t => (t.result, t.mem)) = some (.rangeError, []) := by
  decide
theorem test_mem_write_block :
    (after (.memWriteBlock 0xFFFD [1, 2, 3]) State.reset).map (fun t => (t.result, t.mem)) =
      some (.ok, [(0xFFFD, 1), (0xFFFE, 2), (0xFFFF, 3)]) := by decide
/-- HST-5. -/
theorem test_fb_write :
    (after (.fbWrite 0 0x42) State.reset).map (fun t => (t.fb, t.mem)) = some ([(0, 0x42)], []) := by decide
theorem test_fb_read : replyOf (.fbRead 255) { State.reset with fb := [(255, 0x7E)] } = some (.byte 0x7E) := by decide

/-- ERR-1: an unassigned code. -/
theorem test_unassigned_code :
    (match step { State.reset with hostq := [fullRequest 0x09] } with
      | .next t => decide (t = { State.reset with result := .refused })
      | .fault _ => false
      | .refused _ => false) = true := by decide

/-- 20_memory R72: the descriptor's five regions have the ends that 95_test_vectors 1.2 gives. -/
theorem test_descriptor_region_ends :
    descriptorRegions.map (fun r => r.start + r.length - 1) = [0xBFFF, 0xC0FF, 0xC10F, 0xCFFF, 0xFFFF] := by decide

/-! ### Witnesses of the obligations' hypotheses -/

/-- A state that is busy in every respect: a debug table entry of each kind, both enables, both latches, a byte queued. -/
def busy (ps : List Pins) : State :=
  { scripted ps with
    mem := [(0x00FF, 0x02), (0x0200, 0x55)], fb := [(5, 0x41)], ttyq := [0x41, 0x42]
    bp := entryAt 0xD000, bpEnable := true, bpHit := true, bpHitAddr := 0xD000
    wpWrite := entryAt 0x0200, wpRead := entryAt 0x0200, wpEnable := true, wpHit := true, wpHitAddr := 0x0200, wpHitType := 2
    anchorArmed := false, inputs := [[0x43], []] }

/-- A busy state with one unwatched read to run and the two hit flags as given. -/
def busyWith (bpHit wpHit : Bool) : State := { busy [rd 0x0000] with bpHit := bpHit, wpHit := wpHit }

theorem witness_DecodeReadsBackEveryEncoding :
    (Instr.rdTtyRsvd true 4).wellFormed = true ∧ (Instr.wrTtyRsvd true 15 0xFF).wellFormed = true ∧
    (Instr.wrRam true 0xC110 0x01).wellFormed = true ∧ (Instr.rdRam false 0xFFFF).wellFormed = true ∧
    (Instr.bpMatch false 0x0200).wellFormed = true ∧ (Instr.setWp 0x0200 5).wellFormed = true ∧
    (Instr.wrRam true 0xC110 0x01).port ≠ .debug := by decide

theorem witness_DebugClassesFollowSyncAndRw_disabled :
    State.reset.bpEnable = false ∧ State.reset.wpEnable = false := by decide

theorem witness_DebugClassesFollowSyncAndRw_no_entry :
    (busy []).bpEnable = true ∧ readBp 0xD001 (busy []) = false ∧ (busy []).wpEnable = true ∧
      readWpWrite 0x0201 (busy []) = false ∧ readWpRead 0x0201 (busy []) = false := by decide

theorem witness_StepRunsTheDecodedRequest_request :
    ({ busy [] with hostq := [fullRequest 0x10] } : State).hostq = fullRequest 0x10 :: [] ∧
      decodeHost (fullRequest 0x10) = .ok (.setBp 0xABCD) := ⟨rfl, rfl⟩

theorem witness_StepRunsTheDecodedRequest_encoded :
    ({ busy [] with hostq := [{ code := 0x32 }, fullRequest 0x10] } : State).hostq = { code := 0x32 } :: [fullRequest 0x10] ∧
      encode .ttyCount = .host { code := 0x32 } := ⟨rfl, rfl⟩

theorem witness_StepRunsTheDecodedRequest_empty : (busy []).hostq = [] := rfl

theorem witness_UnassignedCodeIsRefusedUnchanged :
    ({ busy [] with hostq := [fullRequest 0x09] } : State).hostq = fullRequest 0x09 :: [] ∧
      ∀ c ∈ [0x00, 0x09, 0x0F, 0x1F, 0x26, 0x2F, 0x33, 0xFF],
        ¬ (0x01 ≤ (fullRequest c).code.toNat ∧ (fullRequest c).code.toNat ≤ 0x08) ∧
        ¬ (0x10 ≤ (fullRequest c).code.toNat ∧ (fullRequest c).code.toNat ≤ 0x1E) ∧
        ¬ (0x20 ≤ (fullRequest c).code.toNat ∧ (fullRequest c).code.toNat ≤ 0x25) ∧
        ¬ (0x30 ≤ (fullRequest c).code.toNat ∧ (fullRequest c).code.toNat ≤ 0x32) := ⟨rfl, by decide⟩

/-- One state for each of the three ways to be turned down. -/
theorem witness_EveryStepGoesOn :
    step { busy [] with hostq := [fullRequest 0x09] } = .next { busy [] with result := .refused } ∧
    step { busy [] with hostq := [{ code := 0x12, kind := 5 }] } = .next { busy [] with result := .unsupported } ∧
    step { busy [] with hostq := [{ code := 0x22, addr := 0xFFFF, count := 2 }] } =
      .next { busy [] with result := .rangeError } := ⟨rfl, rfl, rfl⟩

/-- The four kinds of cycle. -/
theorem witness_TickRunsItsDecodedClasses :
    (({ busy [] with pins := fetch 0xD000 } : State).pins.sync = true ∧ (fetch 0xD000).rw = true) ∧
    ((rd 0x0200).sync = false ∧ (rd 0x0200).rw = true) ∧ ((wr 0x0200 1).sync = false ∧ (wr 0x0200 1).rw = false) ∧
    ((cycle true false 0x0200 1).sync = true ∧ (cycle true false 0x0200 1).rw = false) := by decide

theorem witness_RamReadPutsTheByteOnData :
    Addr.isRam 0x0000 = true ∧ Addr.isRam 0x00FE = true ∧ Addr.isRam 0xBFFF = true ∧ Addr.isRam 0xC110 = true ∧
      Addr.isRam 0xFFFF = true := by decide

theorem witness_RamWriteStoresExactlyOneByte :
    Addr.isRam 0x0100 = true ∧ 0xD000 ≤ (0xD000 : Addr).toNat ∧ 0xD000 ≤ (0xFFFF : Addr).toNat ∧
      (0xC110 ≤ (0xC110 : Addr).toNat ∧ (0xC110 : Addr).toNat ≤ 0xC1FF) ∧
      (0xC110 ≤ (0xC1FF : Addr).toNat ∧ (0xC1FF : Addr).toNat ≤ 0xC1FF) := by decide

theorem witness_FrameBufferReadShowsFb :
    (0xC000 ≤ (0xC000 : Addr).toNat ∧ (0xC000 : Addr).toNat ≤ 0xC0FF) ∧
      (0xC000 ≤ (0xC0FF : Addr).toNat ∧ (0xC0FF : Addr).toNat ≤ 0xC0FF) := by decide

theorem witness_FrameBufferWriteStoresTwice :
    (0xC000 ≤ (0xC000 : Addr).toNat ∧ (0xC000 : Addr).toNat ≤ 0xC0FF) ∧
      (0xC000 ≤ (0xC0FF : Addr).toNat ∧ (0xC0FF : Addr).toNat ≤ 0xC0FF) ∧
      mkKey false false 0xC0FF &&& 0x1FF00 = 0x0C000 := by decide

theorem witness_TtyConstantRegistersRead : 4 ≤ (4 : BitVec 4).toNat ∧ 4 ≤ (15 : BitVec 4).toNat := by decide

theorem witness_IgnoredTtyWritesOnlyShadow : 4 ≤ (4 : BitVec 4).toNat ∧ 4 ≤ (15 : BitVec 4).toNat := by decide

theorem witness_InStatusReadsQueueNonEmpty :
    (tick [] (busy [rd 0xC102])).pins.rw = true ∧ (tick [] (busy [rd 0xC102])).pins.addr = 0xC102 := by decide

theorem witness_InDataReadPopsTheFront :
    (busy []).ttyq = 0x41 :: [0x42] ∧ State.reset.ttyq = [] := by decide

theorem witness_FetchMatcherLatchesBreakpoint :
    ((busy []).bpEnable = true ∧ readBp 0xD000 (busy []) = true ∧ (busy []).cfg.hitLatchPolicy = .last) ∧
    ¬ ((busy []).bpEnable = true ∧ readBp 0xD001 (busy []) = true) := by decide

/-- Policy first with a latch set: the old address stays. -/
theorem witness_FetchMatcherLatchesBreakpoint_first :
    ({ busy [] with cfg := { defaultConfig with hitLatchPolicy := .first } } : State).cfg.hitLatchPolicy = .first ∧
      ({ busy [] with cfg := { defaultConfig with hitLatchPolicy := .first } } : State).bpHit = true := by decide

theorem witness_WatchMatchersLatchAddressAndType :
    ((busy []).wpEnable = true ∧ readWpWrite 0x0200 (busy []) = true ∧ readWpRead 0x0200 (busy []) = true ∧
      (busy []).cfg.hitLatchPolicy = .last) ∧ ¬ (readWpWrite 0x0201 (busy []) = true) ∧
      ¬ (readWpRead 0x0201 (busy []) = true) := by decide

theorem witness_WatchMatchersLatchAddressAndType_first :
    ({ busy [] with cfg := { defaultConfig with hitLatchPolicy := .first } } : State).cfg.hitLatchPolicy = .first ∧
      ({ busy [] with cfg := { defaultConfig with hitLatchPolicy := .first } } : State).wpHit = true := by decide

theorem witness_OneCycleLatchesAtMostOneHit :
    ¬ ((tick [] (busy [fetch 0xD000])).pins.sync = true ∧ (tick [] (busy [fetch 0xD000])).pins.rw = false) := by decide

theorem witness_BreakpointHitsOnlyOnFetch :
    ({ busy [fetch 0xD000] with bpHit := false } : State).bpHit = false ∧
      (tick [] { busy [fetch 0xD000] with bpHit := false }).bpHit = true := by decide

theorem witness_BreakpointHitsOnlyOnFetch_watch :
    ({ busy [wr 0x0200 1] with wpHit := false } : State).wpHit = false ∧
      (tick [] { busy [wr 0x0200 1] with wpHit := false }).wpHit = true ∧
      (tick [] { busy [rd 0x0200] with wpHit := false }).wpHit = true := by decide

/-- The type codes at and next to the ends of R192's range. -/
theorem witness_SetWatchpointByType :
    ((2 : Byte) = 2 ∨ (2 : Byte) = 3 ∨ (2 : Byte) = 4) ∧ ((4 : Byte) = 2 ∨ (4 : Byte) = 3 ∨ (4 : Byte) = 4) ∧
      ¬ ((1 : Byte) = 2 ∨ (1 : Byte) = 3 ∨ (1 : Byte) = 4) ∧ ¬ ((5 : Byte) = 2 ∨ (5 : Byte) = 3 ∨ (5 : Byte) = 4) := by
  decide

theorem witness_ClearWatchpointByType :
    ((3 : Byte) = 2 ∨ (3 : Byte) = 3 ∨ (3 : Byte) = 4) ∧ ¬ ((255 : Byte) = 2 ∨ (255 : Byte) = 3 ∨ (255 : Byte) = 4) := by
  decide

theorem witness_EnablesWriteOnlyTheirGate_off :
    ({ busy [fetch 0xD000] with bpEnable := false } : State).bpEnable = false ∧
      ({ busy [wr 0x0200 1] with wpEnable := false } : State).wpEnable = false := by decide

theorem witness_EnablesWriteOnlyTheirGate_on :
    (busy [fetch 0xD000]).bpEnable = true ∧
      readBp (tick [] (busy [fetch 0xD000])).pins.addr (busy [fetch 0xD000]) = true ∧
      (tick [] (busy [fetch 0xD000])).pins.sync = true := by decide

theorem witness_ClearHitClearsOnlyTheFlag :
    exec .clrBpHit (busy []) = .next (next .clrBpHit (busy [])) ∧
      exec .clrWpHit (busy []) = .next (next .clrWpHit (busy [])) := ⟨rfl, rfl⟩

theorem witness_InsertAndRemoveByTypeCode :
    ((0 : Byte) = 0 ∨ (0 : Byte) = 1) ∧ ((1 : Byte) = 0 ∨ (1 : Byte) = 1) ∧
      ((4 : Byte) = 2 ∨ (4 : Byte) = 3 ∨ (4 : Byte) = 4) ∧ 4 < (5 : Byte).toNat ∧ 4 < (255 : Byte).toNat := by decide

theorem witness_DetachClearsBreakpointsAndGate :
    ({ busy [] with hostq := [{ code := 0x11, addr := 0xD000 }, { code := 0x14 }, { code := 0x32 }] } : State).hostq =
      (detachOps [0xD000]).filterMap requestOf ++ [{ code := 0x32 }] := by decide

theorem witness_HitFlagsStayUntilCleared :
    exec (.tick []) (busy [fetch 0xD000]) = .next (next (.tick []) (busy [fetch 0xD000])) ∧
      Instr.tick [] ≠ .clrBpHit ∧ Instr.tick [] ≠ .clrWpHit ∧ (busy [fetch 0xD000]).bpHit = true ∧
      (busy [fetch 0xD000]).wpHit = true := ⟨rfl, by decide, by decide, rfl, rfl⟩

theorem witness_HitFlagsStayUntilCleared_first :
    exec (.bpMatch true 0xD000) { busy [] with cfg := { defaultConfig with hitLatchPolicy := .first } } =
      .next (next (.bpMatch true 0xD000) { busy [] with cfg := { defaultConfig with hitLatchPolicy := .first } }) ∧
    ({ busy [] with cfg := { defaultConfig with hitLatchPolicy := .first } } : State).cfg.hitLatchPolicy = .first ∧
    (busy []).bpHit = true := ⟨rfl, rfl, rfl⟩

/-- A run of one tick for each clause of the report: both latches, each alone, none. -/
theorem witness_RunStopsOnHitOrBudget :
    (exec (.run 5) (busy [rd 0x0000]) = .next (next (.run 5) (busy [rd 0x0000])) ∧
      (next (.run 5) (busy [rd 0x0000])).bpHit = true ∧ (next (.run 5) (busy [rd 0x0000])).wpHit = true) ∧
    (exec (.run 5) (busyWith true false) = .next (next (.run 5) (busyWith true false)) ∧
      (next (.run 5) (busyWith true false)).bpHit = true ∧ (next (.run 5) (busyWith true false)).wpHit = false) ∧
    (exec (.run 5) (busyWith false true) = .next (next (.run 5) (busyWith false true)) ∧
      (next (.run 5) (busyWith false true)).bpHit = false ∧ (next (.run 5) (busyWith false true)).wpHit = true) ∧
    (exec (.run 1) (busyWith false false) = .next (next (.run 1) (busyWith false false)) ∧
      (next (.run 1) (busyWith false false)).bpHit = false ∧ (next (.run 1) (busyWith false false)).wpHit = false) :=
  ⟨⟨rfl, by decide, by decide⟩, ⟨rfl, by decide, by decide⟩, ⟨rfl, by decide, by decide⟩, rfl, by decide, by decide⟩

/-- The longest image that RESET and power-on load. -/
theorem witness_ResetRunsItsSequence :
    ({ busy [] with cfg := { defaultConfig with romImage := image 0x3000 } } : State).cfg.romImage.length ≤
      0x3000 := by simp [image_length]

theorem witness_ResetKeepsWhatTheTableKeeps :
    exec (.reset [0x43]) (busy [rd 0x0000]) = .next (next (.reset [0x43]) (busy [rd 0x0000])) ∧
      (busy [rd 0x0000]).bpHit = true ∧ (busy [rd 0x0000]).wpHit = true ∧ (0x0200 : Addr) ≠ 0x00FF ∧
      ((busy [rd 0x0000]).cfg.reloadRomOnReset = false ∨ (0x0200 : Addr).toNat < 0xD000) ∧
      ¬ ((next (.reset [0x43]) (busy [rd 0x0000])).pins.rw = false ∧
        (next (.reset [0x43]) (busy [rd 0x0000])).pins.addr = 0x0200) :=
  ⟨rfl, rfl, rfl, by decide, by decide, by decide⟩

/-- Both sides of the limit of R236. -/
theorem witness_LoadRomStoresTheImage :
    (image 0x3000).length ≤ 0x3000 ∧ 0x3000 < (image 0x3001).length := by simp [image_length]

theorem witness_LoadRomStoresTheImage_power_on :
    ({ defaultConfig with romImage := [0xA9, 0x55] } : Config).romImage.length ≤ 0x3000 ∧
      exec (.loadRom [0xA9, 0x55])
          { powerOn { defaultConfig with romImage := [0xA9, 0x55] } (cpuInitState, cpuInitPins) with mem := [] } =
        .next (next (.loadRom [0xA9, 0x55])
          { powerOn { defaultConfig with romImage := [0xA9, 0x55] } (cpuInitState, cpuInitPins) with mem := [] }) :=
  ⟨by decide, rfl⟩

theorem witness_AnchorOperationsAndUpdate_taken :
    ((tick [] (scriptedAt (fetch 0xD000) 0xD000)).pins.sync = true ∨
        (scriptedAt (fetch 0xD000) 0xD000).anchorArmed = true) ∧
      (tick [] (scriptedAt (fetch 0xD000) 0xD000)).pins.addr = cpuPC (scriptedAt (fetch 0xD000) 0xD000).cpu := by decide

theorem witness_AnchorOperationsAndUpdate_not_taken :
    ¬ (((tick [] (scriptedAt (fetch 0xD005) 0xD004)).pins.sync = true ∨
        (scriptedAt (fetch 0xD005) 0xD004).anchorArmed = true) ∧
      (tick [] (scriptedAt (fetch 0xD005) 0xD004)).pins.addr = cpuPC (scriptedAt (fetch 0xD005) 0xD004).cpu) := by decide

theorem witness_HostWriteStoresWithMirror :
    exec (.memWrite 0x00FF 0xFF) (busy []) = .next (next (.memWrite 0x00FF 0xFF) (busy [])) := rfl

/-- Both sides of the limit of R262: the last byte alone, and one past it; the whole space, and one byte more. -/
theorem witness_HostBlockReadReturnsTheRange :
    (0xFFFF : Addr).toNat + 1 ≤ 0x10000 ∧ 0x10000 < (0xFFFF : Addr).toNat + 2 ∧
      (0x0000 : Addr).toNat + 0x10000 ≤ 0x10000 ∧ 0x10000 < (0x0000 : Addr).toNat + 0x10001 := by decide

theorem witness_HostBlockWriteStoresTheRange :
    (0xFFFE : Addr).toNat + ([1, 2] : List Byte).length ≤ 0x10000 ∧
      0x10000 < (0xFFFE : Addr).toNat + ([1, 2, 3] : List Byte).length := by decide

theorem witness_FrameBufferPresetSeenByCpu :
    exec (.fbWrite 0 0x42) (busy [rd 0xC000]) = .next (next (.fbWrite 0 0x42) (busy [rd 0xC000])) ∧
      (tick [] (next (.fbWrite 0 0x42) (busy [rd 0xC000]))).pins.rw = true ∧
      (tick [] (next (.fbWrite 0 0x42) (busy [rd 0xC000]))).pins.addr = fbAddr 0 := ⟨rfl, by decide, by decide⟩

theorem witness_FrameBufferPresetSeenByCpu_write :
    (tick [] (busy [wr 0xC0FF 0x7E])).pins.rw = false ∧ (tick [] (busy [wr 0xC0FF 0x7E])).pins.addr = fbAddr 255 := by
  decide

theorem witness_InjectAppendsAndSetsTheBit :
    exec (.ttyInject 0x41) (busy [rd 0x0000]) = .next (next (.ttyInject 0x41) (busy [rd 0x0000])) := rfl

theorem witness_TtyResetEmptiesTheQueue :
    exec .ttyReset (busy [rd 0x0000]) = .next (next .ttyReset (busy [rd 0x0000])) ∧
      (busy [rd 0x0000]).mem.wf memSize = true := ⟨rfl, by decide⟩

theorem witness_DataBusShowsOverlayElseMemory :
    (cpuTick (busy [rd 0xC005]).cpu (busy []).pins).2.rw = true ∧
      (cpuTick (busy [wr 0xC005 1]).cpu (busy []).pins).2.rw = false := by decide

theorem witness_BlockWritesOnlyItsPins :
    (cpuTick (busy [wr 0xC005 1]).cpu (busy []).pins).2.rw = false ∧
      exec (.reset []) (busy [rd 0x0000]) = .next (next (.reset []) (busy [rd 0x0000])) := ⟨by decide, rfl⟩

/-- A RAM address and a frame-buffer address, each written in one tick and read in the next. -/
theorem witness_WriteIsReadBackNextTick :
    (Addr.isRam 0xD000 = true ∨ inFbRange 0xD000 = true) ∧
      (tick [] (busy [wr 0xD000 0x9C, rd 0xD000])).pins.rw = false ∧
      (tick [] (busy [wr 0xD000 0x9C, rd 0xD000])).pins.addr = 0xD000 ∧
      (tick [] (tick [] (busy [wr 0xD000 0x9C, rd 0xD000]))).pins.rw = true ∧
      (tick [] (tick [] (busy [wr 0xD000 0x9C, rd 0xD000]))).pins.addr = 0xD000 := by decide

theorem witness_WriteIsReadBackNextTick_frame_buffer :
    (Addr.isRam 0xC0FF = true ∨ inFbRange 0xC0FF = true) ∧
      (tick [] (busy [wr 0xC0FF 0x9C, rd 0xC0FF])).pins.rw = false ∧
      (tick [] (busy [wr 0xC0FF 0x9C, rd 0xC0FF])).pins.addr = 0xC0FF ∧
      (tick [] (tick [] (busy [wr 0xC0FF 0x9C, rd 0xC0FF]))).pins.rw = true ∧
      (tick [] (tick [] (busy [wr 0xC0FF 0x9C, rd 0xC0FF]))).pins.addr = 0xC0FF := by decide

theorem witness_BusCyclesCannotReachHostState :
    ((Instr.rdTtyIdata false).port = .bus ∧
      exec (.rdTtyIdata false) (busy []) = .next (next (.rdTtyIdata false) (busy []))) ∧
    ((Instr.wpwMatch false 0x0200).port = .debug ∧
      exec (.wpwMatch false 0x0200) (busy []) = .next (next (.wpwMatch false 0x0200) (busy []))) := ⟨⟨rfl, rfl⟩, rfl, rfl⟩

theorem witness_QueueIsFirstInFirstOut :
    exec (.tick [0x43]) (busy [rd 0xC103]) = .next (next (.tick [0x43]) (busy [rd 0xC103])) ∧
    exec .step (busy [rd 0xC103, fetch 0xD000]) = .next (next .step (busy [rd 0xC103, fetch 0xD000])) ∧
    exec (.run 2) (busy [rd 0xC103, fetch 0xD000]) = .next (next (.run 2) (busy [rd 0xC103, fetch 0xD000])) ∧
    exec (.memRead 0xC103) (busy []) = .next (next (.memRead 0xC103) (busy [])) := ⟨rfl, rfl, rfl, rfl⟩

theorem witness_OutputAndCounterOnlyGrow :
    step { busy [wr 0xC101 0x48] with hostq := [{ code := 0x01 }] } = .next (next (.tick []) (busy [wr 0xC101 0x48])) ∧
      (Instr.memWrite 0xC101 0x41).port = .host ∧
      exec (.memWrite 0xC101 0x41) (busy []) = .next (next (.memWrite 0xC101 0x41) (busy [])) := ⟨rfl, rfl, rfl⟩

theorem witness_ConfigurationNeverChanges :
    step { busy [rd 0x0000] with hostq := [{ code := 0x04 }] } = .next (next (.reset []) (busy [rd 0x0000])) := rfl

/-- The invariant's three parts, of a state with entries in every array and a hit latched. -/
theorem witness_EveryStepKeepsTheInvariant :
    State.Inv { busy [wr 0x0200 1] with hostq := [{ code := 0x01 }] } ∧
      step { busy [wr 0x0200 1] with hostq := [{ code := 0x01 }] } = .next (next (.tick []) (busy [wr 0x0200 1])) :=
  ⟨⟨⟨by decide, by decide, by decide, by decide, by decide⟩, ⟨by decide, by decide, by decide⟩, by decide⟩, rfl⟩

theorem witness_PowerOnStateIsAsTabled :
    ({ defaultConfig with romImage := image 0x3000 } : Config).romImage.length ≤ 0x3000 := by simp [image_length]

theorem witness_ResetVectorIsLittleEndian :
    exec (.memWrite 0xFFFC 0x00) (busy [rd 0xFFFD]) = .next (next (.memWrite 0xFFFC 0x00) (busy [rd 0xFFFD])) ∧
      exec (.memWrite 0xFFFD 0xD0) (next (.memWrite 0xFFFC 0x00) (busy [rd 0xFFFD])) =
        .next (next (.memWrite 0xFFFD 0xD0) (next (.memWrite 0xFFFC 0x00) (busy [rd 0xFFFD]))) ∧
      (tick [] (next (.memWrite 0xFFFD 0xD0) (next (.memWrite 0xFFFC 0x00) (busy [rd 0xFFFD])))).pins.rw = true ∧
      (tick [] (next (.memWrite 0xFFFD 0xD0) (next (.memWrite 0xFFFC 0x00) (busy [rd 0xFFFD])))).pins.addr = 0xFFFD :=
  ⟨rfl, rfl, by decide, by decide⟩

end Sys2Proof.Tests
end

section
/-! PROOFS. The step of one host request (00_scope R5): what the host port hands to a step, and that the request which
encodes a host operation decodes to it (30_encoding R96, R99). -/

namespace Sys2Proof

/-- Only a host operation encodes to a request; there the first row of R99 with its code is its own row, and the row
reads back the operands that the request carries. -/
theorem decodeHost_of_encode {i : Instr} {q : HostRequest} (h : encode i = .host q) : decodeHost q = .ok i := by
  cases i with
  | rdFb | wrFb | rdTtyOstat | wrTtyOstat | rdTtyOdata | wrTtyOdata | rdTtyIstat | wrTtyIstat | rdTtyIdata
  | wrTtyIdata | rdTtyRsvd | wrTtyRsvd | rdIrqcell | wrIrqcell | rdRam | wrRam => cases h
  | bpMatch | wpwMatch | wprMatch => cases h
  | _ => cases h; rfl

namespace Machine

variable {s : State} {q : HostRequest} {rest : List HostRequest} {i : Instr}

theorem fetchRequest_of_hostq_nil (h : s.hostq = []) : fetchRequest s = none := by
  simp [fetchRequest, h]

theorem fetchRequest_of_hostq_cons (h : s.hostq = q :: rest) :
    fetchRequest s = some (q, { s with hostq := rest }) := by
  simp [fetchRequest, h]

/-- With no request pending the block is halted (43_step_reset R245). -/
theorem step_of_hostq_nil (h : s.hostq = []) : step s = .next s := by
  simp [step, fetchRequest_of_hostq_nil h]

theorem step_of_decodeHost (h : s.hostq = q :: rest) (hd : decodeHost q = .ok i) :
    step s = exec i { s with hostq := rest } := by
  simp [step, fetchRequest_of_hostq_cons h, hd]

/-- Settles O7: the decoded request runs by the equation of `step`, a queued host operation by `decodeHost_of_encode`. -/
theorem stepRunsTheDecodedRequest : Obligations.StepRunsTheDecodedRequest :=
  ⟨fun _ _ _ _ h hd => step_of_decodeHost h hd,
    fun _ _ _ _ h he => step_of_decodeHost h (decodeHost_of_encode he),
    fun _ h => step_of_hostq_nil h⟩

end Machine

end Sys2Proof
end

section
/-! PROOFS. What one tick does to the arrays, the queue, the sink and the hit latches (40_bus_fabric R120): one lemma per
element, read off the matchers and the bus access, whose frames Laws/Tick.lean gives. -/

namespace Sys2Proof

/-- Masking with 0xFF00 keeps the high byte, and the frame-buffer index is the low one (30_encoding R95). -/
theorem fbAddr_fbIndex {a : Addr} (h : a &&& 0xFF00 = 0xC000) : fbAddr (fbIndex a) = a := by
  have hmask : fbAddr (fbIndex a) = (a &&& 0x00FF) ||| 0xC000 := by
    apply BitVec.eq_of_getLsbD_eq
    intro i hi
    show BitVec.getLsbD (w := 8 + 8) ((0xC0 : BitVec 8) ++ a.extractLsb' 0 8) i = _
    rw [BitVec.getLsbD_append]
    interval_cases i <;> simp
  rw [hmask, ← h, ← BitVec.and_or_distrib_left]
  exact BitVec.and_allOnes

/-- Masking with 0xFFF0 keeps the upper twelve bits, and the TTY register index is the rest (30_encoding R94). -/
theorem ttyAddr_ttyIndex {a : Addr} (h : a &&& 0xFFF0 = 0xC100) : ttyAddr (ttyIndex a) = a := by
  have hmask : ttyAddr (ttyIndex a) = (a &&& 0x000F) ||| 0xC100 := by
    apply BitVec.eq_of_getLsbD_eq
    intro i hi
    show BitVec.getLsbD (w := 12 + 4) ((0xC10 : BitVec 12) ++ a.extractLsb' 0 4) i = _
    rw [BitVec.getLsbD_append]
    interval_cases i <;> simp
  rw [hmask, ← h, ← BitVec.and_or_distrib_left]
  exact BitVec.and_allOnes

namespace Machine

variable {s : State} (input : List Byte)

/-! ### The hit latches -/

section
variable {P : State → Prop} (bp : ∀ a s, P s → P (latchBp a s))
  (wp : ∀ a dir s, P s → P (latchWp a (wType a dir s) s))
include bp wp

/-- The matchers act through the two latch operations only (42_debug_matcher R197 to R199), so what those keep, steps 4
and 5 keep. -/
theorem runMatchers_keeps (h : P s) : P (runMatchers s) := by
  have bpc (a : Addr) (u : State) (hu : P u) : P (bpCheck a u) := by
    unfold bpCheck; split
    · exact bp a u hu
    · exact hu
  have wpw (a : Addr) (u : State) (hu : P u) : P (wpWriteCheck a u) := by
    unfold wpWriteCheck; split
    · exact wp a .write u hu
    · exact hu
  have wpr (a : Addr) (u : State) (hu : P u) : P (wpReadCheck a u) := by
    unfold wpReadCheck; split
    · exact wp a .read u hu
    · exact hu
  rw [runMatchers_eq]
  split
  · exact bpc _ _ h
  · exact wpw _ _ (bpc _ _ h)
  · exact wpr _ _ h
  · exact wpw _ _ h

end

/-- The latches after a tick are those that the matchers leave. -/
theorem tick_latches (s : State) : (tick input s).bpHit = (runMatchers (tickStart s)).bpHit ∧
    (tick input s).wpHit = (runMatchers (tickStart s)).wpHit ∧
    (tick input s).wpHitType = (runMatchers (tickStart s)).wpHitType := by
  unfold tick; rw [runBusCycle_frame]; exact ⟨rfl, rfl, rfl⟩

theorem tick_keeps_bpHit (h : s.bpHit = true) : (tick input s).bpHit = true :=
  (tick_latches input s).1.trans <|
    runMatchers_keeps (P := fun u => u.bpHit = true) (fun _ _ _ => rfl) (fun _ _ _ hu => hu) h

theorem tick_keeps_wpHit (h : s.wpHit = true) : (tick input s).wpHit = true :=
  (tick_latches input s).2.1.trans <|
    runMatchers_keeps (P := fun u => u.wpHit = true) (fun _ _ hu => hu) (fun _ _ _ _ => rfl) h

/-- `hitTypeLegal` reads three fields. -/
theorem State.hitTypeLegal.congr {t : State} (h : s.hitTypeLegal) (hcfg : t.cfg = s.cfg)
    (htype : t.wpHitType = s.wpHitType) (hhit : t.wpHit = true → s.wpHit = true) : t.hitTypeLegal := by
  obtain ⟨hcode, hnonzero, hdir⟩ := h
  unfold State.hitTypeLegal
  rw [hcfg, htype]
  exact ⟨hcode, fun ht => hnonzero (hhit ht), hdir⟩

/-- WType answers 2, 3 or 4, and 4 only under `bothTables4` (42_debug_matcher R201). -/
theorem wType_cases (a : Addr) (dir : WatchDir) (s : State) :
    wType a dir s = 2 ∨ wType a dir s = 3 ∨ (wType a dir s = 4 ∧ s.cfg.wpAccessTypeReport = .bothTables4) := by
  unfold wType
  split
  · next h => exact .inr (.inr ⟨rfl, h.1⟩)
  · cases dir with
    | write => exact .inl rfl
    | read => exact .inr (.inl rfl)

theorem latchWp_keeps_hitTypeLegal (a : Addr) (dir : WatchDir) (h : s.hitTypeLegal) :
    (latchWp a (wType a dir s) s).hitTypeLegal := by
  unfold State.hitTypeLegal
  rw [latchWp_wpHitType, latchWp_wpHit, latchWp_cfg]
  obtain ⟨hcode, hnonzero, hdir⟩ := h
  split
  · obtain ht | ht | ⟨ht, hboth⟩ := wType_cases a dir s
    · simp [ht]
    · simp [ht]
    · simp [ht, hboth]
  · next hkeep =>
    have hset : s.wpHit = true := by simpa using (not_or.mp hkeep).2
    exact ⟨hcode, fun _ => hnonzero hset, hdir⟩

theorem tick_keeps_hitTypeLegal (h : s.hitTypeLegal) : (tick input s).hitTypeLegal := by
  obtain ⟨_, hhit, htype⟩ := tick_latches input s
  have hm : (runMatchers (tickStart s)).hitTypeLegal :=
    runMatchers_keeps (fun _ _ hu => hu.congr rfl rfl id) (fun a dir _ hu => latchWp_keeps_hitTypeLegal a dir hu)
      (h.congr rfl rfl id)
  refine hm.congr ?_ htype (hhit ▸ id)
  rw [tick_frame, runMatchers_frame]; rfl

/-! ### The backing array, the frame buffer and the debug tables -/

theorem runMatchers_mem (s : State) : (runMatchers s).mem = s.mem := by rw [runMatchers_frame]

/-- Before the bus access a tick has cleared the cell (step 1) and set its bit 1 where the queue is not empty (step 6). -/
theorem tickToAccess_mem (s : State) : ∃ v : Byte,
    (tickToAccess input s).mem = s.mem.write irqCellAddr.toNat 0x00 ∨
    (tickToAccess input s).mem = (s.mem.write irqCellAddr.toNat 0x00).write irqCellAddr.toNat v := by
  refine ⟨irqCell (enqueue input (runMatchers (tickStart s))) ||| ttyIrqMask, ?_⟩
  have hm : (runMatchers (tickStart s)).mem = s.mem.write irqCellAddr.toNat 0x00 := runMatchers_mem _
  unfold tickToAccess pump
  rw [driveLines_mem, pumpIrq_mem, enqueue_mem, hm]
  split
  · exact .inr rfl
  · exact .inl rfl

theorem tickToAccess_mem_wf (h : s.mem.wf memSize = true) : (tickToAccess input s).mem.wf memSize = true := by
  obtain ⟨v, hm | hm⟩ := tickToAccess_mem input s <;> rw [hm]
  · exact wf_mem_write _ _ h
  · exact wf_mem_write _ _ (wf_mem_write _ _ h)

theorem readMem_tickToAccess {b : Addr} (hb : b ≠ irqCellAddr) (s : State) :
    readMem b (tickToAccess input s) = readMem b s := by
  have hn : b.toNat ≠ irqCellAddr.toNat := mt (toNat_eq_iff _ _).mp hb
  unfold readMem
  obtain ⟨v, hm | hm⟩ := tickToAccess_mem input s <;> rw [hm]
  · rw [Memory.read_write, if_neg hn]
  · rw [Memory.read_write, if_neg hn, Memory.read_write, if_neg hn]

theorem tick_keeps_arraysCanonical (h : s.arraysCanonical) : (tick input s).arraysCanonical := by
  obtain ⟨hmem, hfb, hbp, hww, hwr⟩ := h
  obtain ⟨i, _, _, hi⟩ := runBusCycle_class (tickToAccess input s)
  have hfb' : (tickToAccess input s).fb.wf fbSize = true := by rw [tickToAccess_frame]; exact hfb
  obtain ⟨hmem', hfb''⟩ := classEffect_wf i (tickToAccess_mem_wf input hmem) hfb'
  refine ⟨?_, ?_, ?_, ?_, ?_⟩
  · rw [tick, hi]; exact hmem'
  · rw [tick, hi]; exact hfb''
  all_goals rw [tick_frame]; assumption

/-! ### The bus access of a tick -/

/-- The pins of a tick's cycle are still those of its bus access, DATA apart (40_bus_fabric R125). -/
theorem tick_pins (s : State) :
    (tick input s).pins =
      { (tickToAccess input s).pins with data := (runBusCycle (tickToAccess input s)).pins.data } := by
  rw [tick, countTick_pins, runBusCycle_frame]

theorem tick_nmi (s : State) : (tick input s).pins.nmi = false := by
  rw [tick_pins, tickToAccess_frame]

/-- What the bus access of a read cycle can be (30_encoding R93): 0xC103 is the one address where the queue is popped. -/
theorem runBusCycle_read {s : State} (h : s.pins.rw = true) :
    (s.pins.addr = 0xC103 ∧ runBusCycle s = ttyPopRead s) ∨
    (s.pins.addr ≠ 0xC103 ∧ (runBusCycle s = ramRead s.pins.addr s ∨
      runBusCycle s = fbCycleRead (fbIndex s.pins.addr) s ∨ ∃ r v, runBusCycle s = ttyRead r v s)) := by
  simp only [runBusCycle, cycleKey, decodeBus_mkKey, h, if_true]
  generalize s.pins.addr = a
  split
  · next hfb => exact .inr ⟨by rintro rfl; exact absurd hfb (by decide), .inr (.inl rfl)⟩
  split
  · next ha => exact .inr ⟨by rw [ha]; decide, .inr (.inr ⟨0, _, rfl⟩)⟩
  split
  · next ha => exact .inr ⟨by rw [ha]; decide, .inr (.inr ⟨1, _, rfl⟩)⟩
  split
  · next ha => exact .inr ⟨by rw [ha]; decide, .inr (.inr ⟨2, _, rfl⟩)⟩
  split
  · next ha => exact .inl ⟨ha, rfl⟩
  next hpop =>
  refine .inr ⟨hpop, ?_⟩
  split
  · exact .inr (.inr ⟨_, _, rfl⟩)
  split
  · next ha => subst ha; exact .inl rfl
  · exact .inl rfl

/-- What the bus access of a write cycle can be (30_encoding R93): each operation stores at the cycle's own address. -/
theorem runBusCycle_write {s : State} (h : s.pins.rw = false) :
    runBusCycle s = ramWrite s.pins.addr s.pins.data s ∨
    (fbAddr (fbIndex s.pins.addr) = s.pins.addr ∧
      runBusCycle s = fbCycleWrite (fbIndex s.pins.addr) s.pins.data s) ∨
    (ttyAddr 1 = s.pins.addr ∧ runBusCycle s = ttyEmitWrite s.pins.data s) ∨
    ∃ r, ttyAddr r = s.pins.addr ∧ runBusCycle s = ttyWriteIgnored r s.pins.data s := by
  simp only [runBusCycle, cycleKey, decodeBus_mkKey, h, Bool.false_eq_true, if_false]
  generalize s.pins.addr = a
  split
  · next hfb => exact .inr (.inl ⟨fbAddr_fbIndex hfb, rfl⟩)
  split
  · next ha => subst ha; exact .inr (.inr (.inr ⟨0, rfl, rfl⟩))
  split
  · next ha => subst ha; exact .inr (.inr (.inl ⟨rfl, rfl⟩))
  split
  · next ha => subst ha; exact .inr (.inr (.inr ⟨2, rfl, rfl⟩))
  split
  · next ha => subst ha; exact .inr (.inr (.inr ⟨3, rfl, rfl⟩))
  split
  · next htty => exact .inr (.inr (.inr ⟨_, ttyAddr_ttyIndex htty, rfl⟩))
  split
  · next ha => subst ha; exact .inl rfl
  · exact .inl rfl

/-- Outside the cell the bus access changes the byte at the cycle's address, and only on a write (40_bus_fabric R120,
step 8): IrqLiveness writes the cell alone, and an overlay writes no other byte of the backing array. -/
theorem readMem_runBusCycle {b : Addr} (hb : b ≠ irqCellAddr) (s : State) :
    readMem b (runBusCycle s) = if s.pins.rw = false ∧ b = s.pins.addr then s.pins.data else readMem b s := by
  cases h : s.pins.rw with
  | true =>
    rw [if_neg (by simp)]
    obtain ⟨_, e⟩ | ⟨_, e | e | ⟨r, v, e⟩⟩ := runBusCycle_read h <;> rw [e]
    · exact readMem_irqLiveness hb _
    · rfl
    · rfl
    · exact readMem_irqLiveness hb _
  | false =>
    simp only [true_and]
    obtain e | ⟨ha, e⟩ | ⟨ha, e⟩ | ⟨r, ha, e⟩ := runBusCycle_write h <;> rw [e]
    · exact readMem_writeMem _ b _ s
    · rw [fbCycleWrite, ha]; exact readMem_writeMem _ b _ s
    · rw [ttyEmitWrite, ha, readMem_irqLiveness hb]; exact readMem_writeMem _ b _ s
    · rw [ttyWriteIgnored, ha, readMem_irqLiveness hb]; exact readMem_writeMem _ b _ s

/-- The front byte leaves exactly where the cycle reads 0xC103 (41_tty_irq R168). -/
theorem runBusCycle_ttyq (s : State) :
    (runBusCycle s).ttyq = if s.pins.rw = true ∧ s.pins.addr = 0xC103 then s.ttyq.tail else s.ttyq := by
  cases h : s.pins.rw with
  | true =>
    obtain ⟨ha, e⟩ | ⟨ha, e⟩ := runBusCycle_read h
    · rw [e, if_pos ⟨rfl, ha⟩]; rfl
    · rw [if_neg (fun hn => ha hn.2)]
      obtain e | e | ⟨r, v, e⟩ := e <;> rw [e] <;> rfl
  | false =>
    rw [if_neg (by simp)]
    obtain e | ⟨_, e⟩ | ⟨_, e⟩ | ⟨r, _, e⟩ := runBusCycle_write h <;> rw [e] <;> rfl

/-- The bus access emits at most one byte, at the end of the sink (10_state R26). -/
theorem ttyOut_prefix_runBusCycle (s : State) : s.ttyOut <+: (runBusCycle s).ttyOut := by
  cases h : s.pins.rw with
  | true =>
    obtain ⟨_, e⟩ | ⟨_, e | e | ⟨r, v, e⟩⟩ := runBusCycle_read h <;> rw [e] <;> exact List.prefix_rfl
  | false =>
    obtain e | ⟨_, e⟩ | ⟨_, e⟩ | ⟨r, _, e⟩ := runBusCycle_write h <;> rw [e]
    case inr.inr.inl => exact List.prefix_append _ _
    all_goals exact List.prefix_rfl

/-! ### A whole tick -/

/-- A byte outside the cell changes in a tick only where the tick's cycle writes it. -/
theorem readMem_tick {b : Addr} (hb : b ≠ irqCellAddr) {s : State}
    (hw : ¬((tick input s).pins.rw = false ∧ (tick input s).pins.addr = b)) :
    readMem b (tick input s) = readMem b s := by
  rw [tick_pins] at hw
  calc readMem b (tick input s)
      = readMem b (runBusCycle (tickToAccess input s)) := rfl
    _ = readMem b (tickToAccess input s) := by
        rw [readMem_runBusCycle hb, if_neg fun hn => hw ⟨hn.1, hn.2.symm⟩]
    _ = readMem b s := readMem_tickToAccess input hb s

/-- The draw enters at the back, then the front byte leaves where the cycle reads 0xC103 (41_tty_irq R161, R168). -/
theorem tick_ttyq (s : State) : (tick input s).ttyq =
    if (tick input s).pins.rw = true ∧ (tick input s).pins.addr = 0xC103
    then (s.ttyq ++ input).tail else s.ttyq ++ input := by
  have hq : (tickToAccess input s).ttyq = s.ttyq ++ input := by rw [tickToAccess_frame]
  rw [tick_pins, tick, countTick_ttyq, runBusCycle_ttyq, hq]

theorem ttyOut_prefix_tick (s : State) : s.ttyOut <+: (tick input s).ttyOut := by
  have hout : (tickToAccess input s).ttyOut = s.ttyOut := by rw [tickToAccess_frame]
  exact hout ▸ ttyOut_prefix_runBusCycle (tickToAccess input s)

end Machine

end Sys2Proof
end

section
/-! PROOFS. What a step keeps: every host operation is made of changes that run no tick and of ticks, so a property that
both keep is kept by every step (00_scope R5). The invariant, the configuration, the sink and the counter follow. -/

namespace Sys2Proof

/-- The host port gives host operations only (30_encoding R99). -/
theorem port_of_decodeHost {q : HostRequest} {i : Instr} (h : decodeHost q = .ok i) : i.port = .host := by
  have hrows : ∀ r ∈ hostRows, ∀ q, (r.2 q).port = .host := by
    unfold hostRows
    repeat refine List.forall_mem_cons.mpr ⟨fun _ => rfl, ?_⟩
    exact nofun
  unfold decodeHost at h
  split at h
  · next r hr => cases h; exact hrows r (List.mem_of_find?_eq_some hr) q
  · cases h

namespace Machine

variable {s t u : State}

/-! ### Changes between ticks -/

/-- `t` comes from `s` by changes that are no part of a tick: nothing emitted or counted, no parameter and no recorded
watch type changed, NMI left alone, no watch hit set, and the arrays still canonical. -/
structure QuietChange (s t : State) : Prop where
  arraysCanonical : s.arraysCanonical → t.arraysCanonical
  cfg : t.cfg = s.cfg := by rfl
  ttyOut : t.ttyOut = s.ttyOut := by rfl
  tickCount : t.tickCount = s.tickCount := by rfl
  nmi : t.pins.nmi = s.pins.nmi := by rfl
  wpHitType : t.wpHitType = s.wpHitType := by rfl
  wpHit : t.wpHit = true → s.wpHit = true := by exact id

/-- A quiet change that leaves the pins and the CPU alone: what a host operation that runs no tick can do. -/
structure HostEdit (s t : State) : Prop extends QuietChange s t where
  pins : t.pins = s.pins := by rfl
  cpu : t.cpu = s.cpu := by rfl

theorem QuietChange.trans (h : QuietChange s t) (k : QuietChange t u) : QuietChange s u where
  arraysCanonical := k.arraysCanonical ∘ h.arraysCanonical
  cfg := k.cfg.trans h.cfg
  ttyOut := k.ttyOut.trans h.ttyOut
  tickCount := k.tickCount.trans h.tickCount
  nmi := k.nmi.trans h.nmi
  wpHitType := k.wpHitType.trans h.wpHitType
  wpHit := h.wpHit ∘ k.wpHit

theorem HostEdit.trans (h : HostEdit s t) (k : HostEdit t u) : HostEdit s u where
  toQuietChange := h.toQuietChange.trans k.toQuietChange
  pins := k.pins.trans h.pins
  cpu := k.cpu.trans h.cpu

theorem hostEdit_refl (s : State) : HostEdit s s := { arraysCanonical := id }

theorem hostEdit_reply (r : HostResult) (s : State) : HostEdit s (reply r s) := { arraysCanonical := id }

/-- Every rule of `HostEdit` serves with a reply behind it. -/
theorem HostEdit.reply (h : HostEdit s t) (r : HostResult) : HostEdit s (Machine.reply r t) :=
  h.trans (hostEdit_reply r t)

theorem hostEdit_setMem {m : Memory} (h : s.mem.wf memSize = true → m.wf memSize = true) :
    HostEdit s { s with mem := m } :=
  { arraysCanonical := fun ⟨hmem, hrest⟩ => ⟨h hmem, hrest⟩ }

theorem hostEdit_writeMem (a : Addr) (v : Byte) (s : State) : HostEdit s (writeMem a v s) :=
  hostEdit_setMem (wf_mem_write a v)

theorem hostEdit_writeFb (i v : Byte) (s : State) : HostEdit s (writeFb i v s) :=
  { arraysCanonical := fun ⟨hmem, hfb, hrest⟩ => ⟨hmem, wf_fb_write i v hfb, hrest⟩ }

theorem hostEdit_writeBp (a : Addr) (b : Bool) (s : State) : HostEdit s (writeBp a b s) :=
  { arraysCanonical := fun ⟨hmem, hfb, hbp, hrest⟩ => ⟨hmem, hfb, wf_table_write a b hbp, hrest⟩ }

theorem hostEdit_writeWp (w r : Bool) (a : Addr) (b : Bool) (s : State) : HostEdit s (writeWp w r a b s) := by
  have table (c : Bool) {m : BitTable} (hm : m.wf memSize = true) :
      BitTable.wf memSize (if c then m.write a.toNat b else m) = true := by
    split
    · exact wf_table_write a b hm
    · exact hm
  exact { arraysCanonical := fun ⟨hmem, hfb, hbp, hww, hwr⟩ => ⟨hmem, hfb, hbp, table w hww, table r hwr⟩ }

theorem hostEdit_setWatch (a : Addr) (kind : Byte) (b : Bool) (s : State) : HostEdit s (setWatch a kind b s) := by
  unfold setWatch
  split
  · exact (hostEdit_writeWp _ _ a b s).reply _
  · exact hostEdit_reply _ s

theorem hostEdit_setByCode (kind : Byte) (a : Addr) (b : Bool) (s : State) :
    HostEdit s (setByCode kind a b s) := by
  unfold setByCode
  split
  · exact (hostEdit_writeBp a b s).reply _
  · exact hostEdit_setWatch a kind b s

theorem hostEdit_backdoorWrite (a : Addr) (d : Byte) (s : State) : HostEdit s (backdoorWrite a d s) := by
  unfold backdoorWrite
  dsimp only
  split
  · exact (hostEdit_writeMem a d s).trans (hostEdit_writeFb _ d _)
  · exact hostEdit_writeMem a d s

theorem hostEdit_backdoorWriteList (bs : List Byte) (a : Addr) (s : State) :
    HostEdit s (backdoorWriteList a bs s) := by
  induction bs generalizing a s with
  | nil => exact hostEdit_refl s
  | cons b bs ih => exact (hostEdit_backdoorWrite a b s).trans (ih (a + 1) _)

theorem hostEdit_ttyReset (s : State) : HostEdit s (ttyReset s) :=
  have emptied : HostEdit s { s with ttyq := [] } := { arraysCanonical := id }
  emptied.trans (hostEdit_writeMem _ _ _)

theorem hostEdit_ttyInject (b : Byte) (s : State) : HostEdit s (ttyInject b s) :=
  have entered : HostEdit s (enqueue [b] s) := { arraysCanonical := id }
  entered.trans (hostEdit_writeMem _ _ _)

theorem quietChange_driveRes (b : Bool) (s : State) : QuietChange s (driveRes b s) := { arraysCanonical := id }

/-- RESET before its tick: TTY_RESET, the ROM, and RES in the pin word (43_step_reset R234). -/
theorem quietChange_resetPrepare (s : State) : QuietChange s (resetPrepare s) :=
  { arraysCanonical := fun ⟨hmem, hrest⟩ => ⟨resetPrepare_wf hmem, hrest⟩ }

/-! ### Operations and steps -/

/-- A host operation that runs no tick is a host edit, whatever it answers (30_encoding R99). -/
theorem hostEdit_exec {i : Instr} (hport : i.port = .host) (htick : ∀ input, i ≠ .tick input) (hstep : i ≠ .step)
    (hrun : ∀ n, i ≠ .run n) (hreset : ∀ input, i ≠ .reset input) (h : exec i s = .next t) : HostEdit s t := by
  cases i with
  | rdFb | wrFb | rdTtyOstat | wrTtyOstat | rdTtyOdata | wrTtyOdata | rdTtyIstat | wrTtyIstat | rdTtyIdata
  | wrTtyIdata | rdTtyRsvd | wrTtyRsvd | rdIrqcell | wrIrqcell | rdRam | wrRam => cases hport
  | bpMatch | wpwMatch | wprMatch => cases hport
  | tick input => exact absurd rfl (htick input)
  | step => exact absurd rfl hstep
  | run n => exact absurd rfl (hrun n)
  | reset input => exact absurd rfl (hreset input)
  | loadRom image =>
    simp only [exec, execLoadRom] at h
    split at h <;> cases h
    · exact hostEdit_reply _ s
    · next m hm => exact (hostEdit_setMem (wf_loadRomMem hm)).reply _
  | getTicks | getAnchor | getBpHit | getBpHitAddr | getWpHit | getWpHitAddr | getWpHitType | memRead | fbRead
  | ttyCount => cases h; exact hostEdit_reply _ s
  | anchorRealign | enableBp | enableWp | clrBpHit => cases h; exact { arraysCanonical := id }
  | clrWpHit => cases h; exact { arraysCanonical := id, wpHit := fun hset => Bool.noConfusion hset }
  | setBp a | clrBp a => cases h; exact (hostEdit_writeBp a _ s).reply _
  | setWp a kind | clrWp a kind => cases h; exact hostEdit_setWatch a kind _ s
  | insertZ kind a | removeZ kind a => cases h; exact hostEdit_setByCode kind a _ s
  | memWrite a d => cases h; exact (hostEdit_backdoorWrite a d s).reply _
  | memReadBlock a len =>
    simp only [exec, execMemReadBlock] at h
    split at h <;> cases h <;> exact hostEdit_reply _ s
  | memWriteBlock a data =>
    simp only [exec, execMemWriteBlock] at h
    split at h <;> cases h
    · exact hostEdit_reply _ s
    · exact (hostEdit_backdoorWriteList data a s).reply _
  | fbWrite j d => cases h; exact (hostEdit_writeFb j d s).reply _
  | ttyInject b => cases h; exact (hostEdit_ttyInject b s).reply _
  | ttyReset => cases h; exact (hostEdit_ttyReset s).reply _

section
variable {P : State → Prop} (quiet : ∀ {s t}, QuietChange s t → P s → P t) (tick : ∀ input {s}, P s → P (tick input s))
include quiet tick

/-- STEP and RUN run ticks, each after its draw has been taken. -/
theorem runTicks_keeps (n : Nat) (h : P s) : P (runTicks n s) :=
  have drawn (u : State) : QuietChange u { u with inputs := u.inputs.tail } := { arraysCanonical := id }
  runTicks_induction (fun u hu => tick _ (quiet (drawn u) hu)) n h

theorem exec_keeps {i : Instr} (hport : i.port = .host) (h : exec i s = .next t) (hs : P s) : P t := by
  have replied {r : HostResult} {u : State} (hu : P u) : P (reply r u) := quiet (hostEdit_reply r u).toQuietChange hu
  cases i with
  | tick input => cases h; exact replied (tick input hs)
  | step =>
    cases h
    obtain ⟨n, hn⟩ := stepLoop_runTicks (s.cfg.stepGuard - 1) s
    exact replied (show P (stepLoop _ s).1 from hn ▸ runTicks_keeps quiet tick n hs)
  | run budget =>
    cases h
    obtain ⟨n, hn⟩ := runLoop_runTicks budget 0 s
    exact replied (hn ▸ runTicks_keeps quiet tick n hs)
  | reset input =>
    cases h
    have prepared : P (resetPrepare s) := quiet (quietChange_resetPrepare s) hs
    exact replied (quiet (quietChange_driveRes false _) (tick input prepared))
  | _ => exact quiet (hostEdit_exec hport nofun nofun nofun nofun h).toQuietChange hs

/-- A step runs one host operation, or none, or turns a request down (30_encoding R99, 43_step_reset R245). -/
theorem step_keeps (h : step s = .next t) (hs : P s) : P t := by
  cases hq : s.hostq with
  | nil => rw [step_of_hostq_nil hq] at h; cases h; exact hs
  | cons q rest =>
    have fetched : QuietChange s { s with hostq := rest } := { arraysCanonical := id }
    have hs' := quiet fetched hs
    cases hd : decodeHost q with
    | ok i =>
      rw [step_of_decodeHost hq hd] at h
      exact exec_keeps quiet tick (port_of_decodeHost hd) h hs'
    | error e =>
      simp only [step, fetchRequest_of_hostq_cons hq, hd] at h
      cases h
      exact quiet (hostEdit_reply _ _).toQuietChange hs'

end

/-! ### The invariant, the configuration, the sink and the counter -/

theorem QuietChange.keeps_inv (h : QuietChange s t) (hs : s.Inv) : t.Inv := by
  obtain ⟨harrays, htype, hnmi⟩ := hs
  exact ⟨h.arraysCanonical harrays, htype.congr h.cfg h.wpHitType h.wpHit, h.nmi.trans hnmi⟩

theorem tick_keeps_inv (input : List Byte) (hs : s.Inv) : (tick input s).Inv := by
  obtain ⟨harrays, htype, _⟩ := hs
  exact ⟨tick_keeps_arraysCanonical input harrays, tick_keeps_hitTypeLegal input htype, tick_nmi input s⟩

/-- Settles O57: a quiet change and a tick both keep the invariant, and a step is made of these. -/
theorem everyStepKeepsTheInvariant : Obligations.EveryStepKeepsTheInvariant :=
  fun _ _ hs h => step_keeps (fun hq hu => hq.keeps_inv hu) (fun input _ hu => tick_keeps_inv input hu) h hs

/-- Settles O55: for a step by `step_keeps`, the sink growing in a tick by `ttyOut_prefix_tick`; for an operation that
runs no tick by `hostEdit_exec`. -/
theorem outputAndCounterOnlyGrow : Obligations.OutputAndCounterOnlyGrow := by
  refine ⟨fun s t h => ?_, fun i s t hport h htick hstep hrun hreset => ?_⟩
  · refine step_keeps (P := fun u => s.ttyOut <+: u.ttyOut ∧ s.tickCount ≤ u.tickCount) ?_ ?_ h
      ⟨List.prefix_rfl, le_rfl⟩
    · exact fun hq ⟨hout, hcount⟩ => ⟨hq.ttyOut ▸ hout, hq.tickCount ▸ hcount⟩
    · intro input u ⟨hout, hcount⟩
      have hsucc : (tick input u).tickCount = u.tickCount + 1 := by rw [tick_frame]
      exact ⟨hout.trans (ttyOut_prefix_tick input u), by omega⟩
  · have hedit := hostEdit_exec hport htick hstep hrun hreset h
    exact ⟨hedit.ttyOut, hedit.tickCount, hedit.pins, hedit.cpu⟩

theorem tick_cfg (input : List Byte) (s : State) : (tick input s).cfg = s.cfg := by rw [tick_frame]

/-- Settles O56: neither a quiet change nor a tick writes a parameter. -/
theorem configurationNeverChanges : Obligations.ConfigurationNeverChanges :=
  fun s _ h => step_keeps (P := fun u => u.cfg = s.cfg) (fun hq hu => hq.cfg.trans hu)
    (fun input u hu => (tick_cfg input u).trans hu) h rfl

end Machine

end Sys2Proof
end

section
/-! PROOFS. RESET and power-on: what they leave of every byte and every field (43_step_reset R234, R236, 10_state R44, R46). -/

namespace Sys2Proof

namespace Machine

/-! ### The ROM image -/

/-- An image that R7 allows is loaded over any memory. -/
theorem read_reloadRom {cfg : Config} (h : cfg.romImage.length ≤ romMax) (m : Memory) (b : Nat) :
    (reloadRom cfg m).read b =
      if 0xD000 ≤ b ∧ b < 0xD000 + cfg.romImage.length then cfg.romImage.getD (b - 0xD000) 0 else m.read b := by
  have hload : loadRomMem cfg.romImage m = some (m.writeList romBase.toNat cfg.romImage) :=
    if_neg (Nat.not_lt.mpr h)
  rw [reloadRom, hload]
  exact read_loadRomMem hload b

/-- No image, of whatever length, reaches below 0xD000. -/
theorem read_reloadRom_below (cfg : Config) (m : Memory) {b : Nat} (hb : b < 0xD000) :
    (reloadRom cfg m).read b = m.read b := by
  unfold reloadRom
  cases h : loadRomMem cfg.romImage m with
  | none => rfl
  | some m' => exact (read_loadRomMem h b).trans (if_neg (by omega))

/-! ### RESET -/

/-- TTY_RESET changes the cell alone, and the reload nothing below the ROM area. -/
theorem readMem_resetPrepare {b : Addr} (hb : b ≠ irqCellAddr) {s : State}
    (hrom : s.cfg.reloadRomOnReset = false ∨ b.toNat < 0xD000) : readMem b (resetPrepare s) = readMem b s := by
  have hcell : readMem b (ttyReset s) = readMem b s := (readMem_writeMem _ b _ _).trans (if_neg hb)
  refine Eq.trans ?_ hcell
  show Memory.read (if s.cfg.reloadRomOnReset then reloadRom s.cfg (ttyReset s).mem else (ttyReset s).mem) b.toNat = _
  split
  · next hreload => exact read_reloadRom_below _ _ (hrom.resolve_left (by simp [hreload]))
  · rfl

/-- Settles O38: RESET is `resetPrepare`, one tick and RES low again. The tick's lemmas say what it keeps; the frame of
the tick gives the rest. -/
theorem resetKeepsWhatTheTableKeeps : Obligations.ResetKeepsWhatTheTableKeeps := by
  intro input s t h
  obtain rfl : t = reply .none (driveRes false (tick input (resetPrepare s))) := by cases h; rfl
  have hframe := tick_frame input (resetPrepare s)
  have hqueue := tick_ttyq input (resetPrepare s)
  have hbp := tick_keeps_bpHit (s := resetPrepare s) input
  have hwp := tick_keeps_wpHit (s := resetPrepare s) input
  have hbyte {b : Addr} (hb : b ≠ irqCellAddr) := readMem_tick input (s := resetPrepare s) hb
  generalize tick input (resetPrepare s) = u at *
  refine ⟨?bp, ?wpWrite, ?wpRead, ?bpEnable, ?wpEnable, ?cfg, ?tickCount, rfl, hqueue, hbp, hwp, ?byte⟩
  case byte => exact fun b hb hrom hw => (hbyte hb hw).trans (readMem_resetPrepare hb hrom)
  all_goals rw [hframe]; rfl

/-! ### Power-on -/

theorem powerOn_inv (cfg : Config) (init : CpuState × Pins) : (powerOn cfg init).Inv :=
  ⟨⟨wf_reloadRom cfg (Memory.wf_nil _), rfl, rfl, rfl, rfl⟩,
    ⟨.inl rfl, fun hset => Bool.noConfusion hset, fun _ => show (0 : Byte) ≠ 4 by decide⟩, rfl⟩

/-- Settles O58: the reset state is a power-on state, and these differ in `mem`, `cpu`, `cfg` and the pins only. -/
theorem resetStateMeetsTheInvariant : Obligations.ResetStateMeetsTheInvariant :=
  ⟨reset_eq_powerOn ▸ powerOn_inv _ _, powerOn_inv⟩

/-- Settles O59: `mem` is the ROM image over the empty memory, every other element is that of `State.reset`. -/
theorem powerOnStateIsAsTabled : Obligations.PowerOnStateIsAsTabled := by
  intro cfg init himage
  have hmem (b : Addr) := read_reloadRom himage [] b.toNat
  exact ⟨hmem, fun _ => rfl, rfl, rfl, rfl, rfl, fun _ => ⟨rfl, rfl, rfl⟩, rfl, rfl, rfl, rfl, rfl, rfl, rfl, rfl, rfl,
    rfl⟩

end Machine

end Sys2Proof
end

section
/-! PROOFS. The address map (20_memory R66) and the decode masks (30_encoding R93) name the same ranges, so the router gives
every cycle the class of its region. -/

namespace Sys2Proof

/-! ### The masks as ranges -/

/-- The mask of the frame-buffer rows clears the low byte. -/
theorem fbMask_iff (a : Addr) : a &&& 0xFF00 = 0xC000 ↔ 0xC000 ≤ a.toNat ∧ a.toNat ≤ 0xC0FF := by
  have hmask : a &&& (0xFF00 : Addr) = a >>> 8 <<< 8 := (BitVec.shiftLeft_ushiftRight (x := a) (n := 8)).symm
  rw [hmask]
  bv_omega

/-- The mask of the reserved TTY rows clears the low four bits. -/
theorem ttyMask_iff (a : Addr) : a &&& 0xFFF0 = 0xC100 ↔ 0xC100 ≤ a.toNat ∧ a.toNat ≤ 0xC10F := by
  have hmask : a &&& (0xFFF0 : Addr) = a >>> 4 <<< 4 := (BitVec.shiftLeft_ushiftRight (x := a) (n := 4)).symm
  rw [hmask]
  bv_omega

theorem toNat_fbIndex (a : Addr) : (fbIndex a).toNat = a.toNat % 0x100 := BitVec.extractLsb'_toNat 0 8 a

theorem toNat_ttyIndex (a : Addr) : (ttyIndex a).toNat = a.toNat % 0x10 := BitVec.extractLsb'_toNat 0 4 a

theorem toNat_fbAddr (j : Byte) : (fbAddr j).toNat = 0xC000 + j.toNat := by
  show ((0xC0 : BitVec 8) ++ j).toNat = _
  rw [BitVec.toNat_append, ← Nat.shiftLeft_add_eq_or_of_lt j.isLt]
  rfl

/-- The two forms of the index in 30_encoding R95. -/
theorem fbIndex_eq_sub (a : Addr) : fbIndex a = (a - fbBase).setWidth 8 := by
  apply BitVec.eq_of_toNat_eq
  rw [toNat_fbIndex]
  bv_omega

/-- The two forms of the index in 30_encoding R94. -/
theorem ttyIndex_eq_sub (a : Addr) : ttyIndex a = (a - ttyBase).setWidth 4 := by
  apply BitVec.eq_of_toNat_eq
  rw [toNat_ttyIndex]
  bv_omega

namespace Machine

/-! ### The regions -/

/-- The address map by the masks of the decode table. -/
theorem regionOf_eq_masks (a : Addr) : regionOf a =
    if a &&& 0xFF00 = 0xC000 then .frameBuffer
    else if a &&& 0xFFF0 = 0xC100 then .tty
    else if a = 0x00FF then .irqCell
    else .ram := by
  simp only [regionOf, fbMask_iff, ttyMask_iff, ← toNat_eq_iff a 0x00FF]
  rfl

theorem regionOf_eq_frameBuffer_iff (a : Addr) :
    regionOf a = .frameBuffer ↔ 0xC000 ≤ a.toNat ∧ a.toNat ≤ 0xC0FF := by
  unfold regionOf
  split
  · next h => simp [h]
  · next h =>
    refine iff_of_false ?_ h
    split
    · simp
    · split <;> simp

/-- The frame-buffer byte that an address in the range stands for (30_encoding R95). -/
theorem eq_fbIndex_iff {a : Addr} (h : regionOf a = .frameBuffer) (j : Byte) :
    j = fbIndex a ↔ a.toNat = 0xC000 + j.toNat := by
  rw [regionOf_eq_frameBuffer_iff] at h
  rw [← toNat_eq_iff, toNat_fbIndex]
  omega

theorem regionOf_of_inFbRange {a : Addr} (h : inFbRange a = true) : regionOf a = .frameBuffer := by
  rw [regionOf_eq_masks, if_pos ((inFbRange_iff a).mp h)]

theorem regionOf_of_isRam {a : Addr} (h : Addr.isRam a = true) : regionOf a = .ram := by
  simp only [Addr.isRam, Bool.and_eq_true, bne_iff_ne] at h
  obtain ⟨⟨hfb, htty⟩, hcell⟩ := h
  rw [regionOf_eq_masks, if_neg hfb, if_neg htty, if_neg hcell]

/-- Settles O4: past the frame buffer, an address that one of the four exact TTY rows claims lies in the TTY window, so
the table's order of rows is that of the regions. -/
theorem routerFollowsAddressMap : Obligations.RouterFollowsAddressMap := by
  intro y w a d
  rw [decodeBus_mkKey, routerReference, regionOf_eq_masks, ← fbIndex_eq_sub, ← ttyIndex_eq_sub]
  by_cases hfb : a &&& 0xFF00 = 0xC000
  · simp only [if_pos hfb]
  by_cases htty : a &&& 0xFFF0 = 0xC100
  · simp only [if_neg hfb, if_pos htty]
  have hne {r : Addr} (hr : r &&& 0xFFF0 = 0xC100) : a ≠ r := fun h => htty (h ▸ hr)
  simp only [if_neg hfb, if_neg htty, if_neg (hne (r := 0xC100) rfl), if_neg (hne (r := 0xC101) rfl),
    if_neg (hne (r := 0xC102) rfl), if_neg (hne (r := 0xC103) rfl)]
  by_cases hcell : a = 0x00FF
  · simp only [if_pos hcell]
  · simp only [if_neg hcell]

end Machine

end Sys2Proof
end

section
/-! PROOFS. What a tick stores and what a read sees, by the region of its cycle (20_memory R66, R67, R73, R77): the bus
access by region first, then the whole tick, then the host's backdoor. -/

namespace Sys2Proof

namespace Machine

/-! ### The bus access by region -/

/-- Steps 8 and 9 run the class of the cycle's region. -/
theorem runBusCycle_eq_router (s : State) :
    runBusCycle s = classEffect (routerReference s.pins.sync s.pins.rw s.pins.addr s.pins.data) s := by
  rw [runBusCycle, cycleKey, routerFollowsAddressMap]

theorem runBusCycle_ram {s : State} (h : regionOf s.pins.addr = .ram) :
    runBusCycle s = if s.pins.rw then ramRead s.pins.addr s else ramWrite s.pins.addr s.pins.data s := by
  rw [runBusCycle_eq_router, routerReference, h]
  cases s.pins.rw <;> rfl

theorem runBusCycle_frameBuffer {s : State} (h : regionOf s.pins.addr = .frameBuffer) :
    runBusCycle s = if s.pins.rw then fbCycleRead (fbIndex s.pins.addr) s
      else fbCycleWrite (fbIndex s.pins.addr) s.pins.data s := by
  rw [runBusCycle_eq_router, routerReference, h, fbIndex_eq_sub]
  cases s.pins.rw <;> rfl

theorem runBusCycle_emit {s : State} (hw : s.pins.rw = false) (ha : s.pins.addr = 0xC101) :
    runBusCycle s = ttyEmitWrite s.pins.data s := by
  rw [runBusCycle_eq_router, hw, ha]; rfl

/-- A write leaves DATA as the CPU drove it (40_bus_fabric R121). -/
theorem runBusCycle_data_of_write {s : State} (h : s.pins.rw = false) :
    (runBusCycle s).pins.data = s.pins.data := by
  obtain e | ⟨_, e⟩ | ⟨_, e⟩ | ⟨r, _, e⟩ := runBusCycle_write h <;> rw [e] <;> rfl

/-- Only a write in the frame-buffer range changes the frame buffer, at the cycle's own index (40_bus_fabric R135). -/
theorem readFb_runBusCycle (j : Byte) (s : State) :
    readFb j (runBusCycle s) =
      if s.pins.rw = false ∧ s.pins.addr.toNat = 0xC000 + j.toNat then s.pins.data else readFb j s := by
  cases h : s.pins.rw with
  | true =>
    rw [if_neg (by simp)]
    obtain ⟨_, e⟩ | ⟨_, e | e | ⟨r, v, e⟩⟩ := runBusCycle_read h <;> rw [e] <;> rfl
  | false =>
    simp only [true_and]
    by_cases hfb : regionOf s.pins.addr = .frameBuffer
    · simp only [runBusCycle_frameBuffer hfb, h, Bool.false_eq_true, if_false, ← eq_fbIndex_iff hfb]
      exact readFb_writeFb _ j _ _
    · rw [regionOf_eq_frameBuffer_iff] at hfb
      rw [if_neg (by omega)]
      obtain e | ⟨ha, e⟩ | ⟨_, e⟩ | ⟨r, _, e⟩ := runBusCycle_write h
      case inr.inl =>
        refine absurd ?_ hfb
        rw [← ha, toNat_fbAddr]
        omega
      all_goals rw [e]; rfl

/-- Only a write of out-data emits, and it emits one byte (41_tty_irq R165). -/
theorem runBusCycle_ttyOut (s : State) :
    (runBusCycle s).ttyOut =
      s.ttyOut ++ (if s.pins.rw = false ∧ s.pins.addr = 0xC101 then [s.pins.data] else []) := by
  cases h : s.pins.rw with
  | true =>
    rw [if_neg (by simp), List.append_nil]
    obtain ⟨_, e⟩ | ⟨_, e | e | ⟨r, v, e⟩⟩ := runBusCycle_read h <;> rw [e] <;> rfl
  | false =>
    by_cases ha : s.pins.addr = 0xC101
    · rw [if_pos ⟨rfl, ha⟩, runBusCycle_emit h ha]; rfl
    · rw [if_neg (fun hn => ha hn.2), List.append_nil]
      obtain e | ⟨_, e⟩ | ⟨hodata, _⟩ | ⟨r, _, e⟩ := runBusCycle_write h
      case inr.inr.inl => exact absurd hodata.symm ha
      all_goals rw [e]; rfl

/-! ### The cycle of a tick -/

section
variable (input : List Byte) (s : State)

theorem tickToAccess_rw : (tickToAccess input s).pins.rw = (cpuTick s.cpu s.pins).2.rw := by
  rw [tickToAccess_frame]

theorem tickToAccess_addr : (tickToAccess input s).pins.addr = (cpuTick s.cpu s.pins).2.addr := by
  rw [tickToAccess_frame]

theorem tickToAccess_data : (tickToAccess input s).pins.data = (cpuTick s.cpu s.pins).2.data := by
  rw [tickToAccess_frame]

theorem tickToAccess_ttyOut : (tickToAccess input s).ttyOut = s.ttyOut := by rw [tickToAccess_frame]

theorem readFb_tickToAccess (j : Byte) : readFb j (tickToAccess input s) = readFb j s := by
  rw [tickToAccess_frame]; rfl

theorem tick_rw : (tick input s).pins.rw = (cpuTick s.cpu s.pins).2.rw := by
  rw [tick_pins]; exact tickToAccess_rw input s

theorem tick_addr : (tick input s).pins.addr = (cpuTick s.cpu s.pins).2.addr := by
  rw [tick_pins]; exact tickToAccess_addr input s

theorem tick_data_of_write (h : (cpuTick s.cpu s.pins).2.rw = false) :
    (tick input s).pins.data = (cpuTick s.cpu s.pins).2.data :=
  (runBusCycle_data_of_write ((tickToAccess_rw input s).trans h)).trans (tickToAccess_data input s)

/-! ### What a tick stores -/

/-- Outside the cell a tick stores its cycle's byte at its cycle's address, whatever the region (20_memory R67). -/
theorem readMem_tick_eq {b : Addr} (hb : b ≠ irqCellAddr) : readMem b (tick input s) =
    if (cpuTick s.cpu s.pins).2.rw = false ∧ b = (cpuTick s.cpu s.pins).2.addr then (cpuTick s.cpu s.pins).2.data
    else readMem b s := by
  have h := readMem_runBusCycle hb (tickToAccess input s)
  rwa [tickToAccess_rw, tickToAccess_addr, tickToAccess_data, readMem_tickToAccess input hb] at h

theorem readFb_tick (j : Byte) : readFb j (tick input s) =
    if (cpuTick s.cpu s.pins).2.rw = false ∧ (cpuTick s.cpu s.pins).2.addr.toNat = 0xC000 + j.toNat
    then (cpuTick s.cpu s.pins).2.data else readFb j s := by
  have h := readFb_runBusCycle j (tickToAccess input s)
  rwa [tickToAccess_rw, tickToAccess_addr, tickToAccess_data, readFb_tickToAccess] at h

theorem tick_ttyOut : (tick input s).ttyOut = s.ttyOut ++
    (if (cpuTick s.cpu s.pins).2.rw = false ∧ (cpuTick s.cpu s.pins).2.addr = 0xC101
     then [(cpuTick s.cpu s.pins).2.data] else []) := by
  have h := runBusCycle_ttyOut (tickToAccess input s)
  rwa [tickToAccess_rw, tickToAccess_addr, tickToAccess_data, tickToAccess_ttyOut] at h

end

/-- Settles O50: one lemma for each of the three stores. -/
theorem tickStoresOnlyItsCycle : Obligations.TickStoresOnlyItsCycle := fun input s =>
  ⟨fun _ hb => readMem_tick_eq input s hb, fun j => readFb_tick input s j, tick_ttyOut input s⟩

/-! ### What a read sees -/

section
variable {input : List Byte} {s : State} {a : Addr}

/-- A read cycle of RAM returns the byte of the backing array (40_bus_fabric R130). -/
theorem tick_data_of_ram_read (ha : regionOf a = .ram) (hr : (tick input s).pins.rw = true)
    (haddr : (tick input s).pins.addr = a) : (tick input s).pins.data = readMem a s := by
  subst haddr
  have hcell : (tick input s).pins.addr ≠ irqCellAddr := fun h => absurd (h ▸ ha) (by decide)
  rw [tick_pins] at hr ha hcell ⊢
  rw [runBusCycle_ram ha, if_pos hr]
  exact readMem_tickToAccess input hcell s

/-- A read cycle of the frame buffer returns its byte, whatever the backing array holds (40_bus_fabric R134). -/
theorem tick_data_of_frameBuffer_read (ha : regionOf a = .frameBuffer) (hr : (tick input s).pins.rw = true)
    (haddr : (tick input s).pins.addr = a) : (tick input s).pins.data = readFb (fbIndex a) s := by
  subst haddr
  rw [tick_pins] at hr ha ⊢
  rw [runBusCycle_frameBuffer ha, if_pos hr]
  exact readFb_tickToAccess input s _

/-- After a tick that writes RAM address `a`, the backing array holds the byte driven. -/
theorem readMem_tick_of_ram_write (ha : regionOf a = .ram) (hw : (tick input s).pins.rw = false)
    (haddr : (tick input s).pins.addr = a) : readMem a (tick input s) = (tick input s).pins.data := by
  have hcell : a ≠ irqCellAddr := fun h => absurd (h ▸ ha) (by decide)
  rw [tick_rw] at hw
  rw [tick_addr] at haddr
  rw [tick_data_of_write input s hw, readMem_tick_eq input s hcell, if_pos ⟨hw, haddr.symm⟩]

/-- After a tick that writes frame-buffer address `a`, the frame buffer holds the byte driven. -/
theorem readFb_tick_of_frameBuffer_write (ha : regionOf a = .frameBuffer) (hw : (tick input s).pins.rw = false)
    (haddr : (tick input s).pins.addr = a) : readFb (fbIndex a) (tick input s) = (tick input s).pins.data := by
  rw [tick_rw] at hw
  rw [tick_addr] at haddr
  rw [tick_data_of_write input s hw, readFb_tick, haddr, if_pos ⟨hw, (eq_fbIndex_iff ha _).mp rfl⟩]

end

/-- Settles O52: the first tick stores the byte in the array that the second tick's read takes DATA from, `mem` for RAM
and `fb` for the frame buffer. -/
theorem writeIsReadBackNextTick : Obligations.WriteIsReadBackNextTick := by
  intro in1 in2 s a hregion hw hwa hr hra
  obtain hram | hfb := hregion
  · have ha := regionOf_of_isRam hram
    exact (tick_data_of_ram_read ha hr hra).trans (readMem_tick_of_ram_write ha hw hwa)
  · have ha := regionOf_of_inFbRange hfb
    exact (tick_data_of_frameBuffer_read ha hr hra).trans (readFb_tick_of_frameBuffer_write ha hw hwa)

/-! ### The reset vector -/

/-- MEM_WRITE stores in the backing array whether or not it also mirrors (44_host_access R261). -/
theorem readMem_backdoorWrite (a b : Addr) (d : Byte) (s : State) :
    readMem b (backdoorWrite a d s) = if b = a then d else readMem b s := by
  rw [backdoorWrite_eq]; exact readMem_writeMem a b d s

theorem readMem_of_exec_memWrite {a : Addr} {d : Byte} {s t : State} (h : exec (.memWrite a d) s = .next t) (b : Addr) :
    readMem b t = if b = a then d else readMem b s := by
  obtain rfl : t = reply .none (backdoorWrite a d s) := by cases h; rfl
  exact readMem_backdoorWrite a b d s

/-- The reset target as 20_memory R62 writes it. -/
theorem resetTarget_eq_or (s : State) : resetTarget s =
    (readMem resetVectorLo s).setWidth 16 ||| ((readMem resetVectorHi s).setWidth 16 <<< 8) := by
  have h := BitVec.setWidth_append_eq_shiftLeft_setWidth_or (w'' := 16) (b := readMem resetVectorHi s)
    (b' := readMem resetVectorLo s)
  rw [BitVec.setWidth_eq] at h
  exact h.trans (BitVec.or_comm _ _)

/-- Settles O60: the second write leaves the low byte, and both addresses are RAM to a read cycle. -/
theorem resetVectorIsLittleEndian : Obligations.ResetVectorIsLittleEndian := by
  intro lo hi s t u hlo hhi
  have hmemLo : readMem 0xFFFC u = lo :=
    (readMem_of_exec_memWrite hhi 0xFFFC).trans (readMem_of_exec_memWrite hlo 0xFFFC)
  have hmemHi : readMem 0xFFFD u = hi := readMem_of_exec_memWrite hhi 0xFFFD
  refine ⟨?target, fun input hr ha => ?low, fun input hr ha => ?high⟩
  case target => rw [resetTarget_eq_or, hmemLo, hmemHi]
  case low => exact (tick_data_of_ram_read (by decide) hr ha).trans hmemLo
  case high => exact (tick_data_of_ram_read (by decide) hr ha).trans hmemHi

end Machine

end Sys2Proof
end

section
/-! PROOFS. The decoders and the encoder (30_encoding R91 to R102): the encoder's addresses read back, what each decoder
answers with, and the round trip of each of the three kinds of operation. -/

namespace Sys2Proof

/-! ### The encoder's addresses -/

theorem toNat_ttyAddr (r : BitVec 4) : (ttyAddr r).toNat = 0xC100 + r.toNat := by
  show ((0xC10 : BitVec 12) ++ r).toNat = _
  rw [BitVec.toNat_append, ← Nat.shiftLeft_add_eq_or_of_lt r.isLt]
  rfl

theorem fbIndex_fbAddr (j : Byte) : fbIndex (fbAddr j) = j := by
  apply BitVec.eq_of_toNat_eq
  rw [toNat_fbIndex, toNat_fbAddr]
  omega

theorem ttyIndex_ttyAddr (r : BitVec 4) : ttyIndex (ttyAddr r) = r := by
  apply BitVec.eq_of_toNat_eq
  rw [toNat_ttyIndex, toNat_ttyAddr]
  omega

/-! ### The router -/

/-- The frame-buffer rows come first, so the frame buffer's whole range is theirs (30_encoding R93, rows 1 and 2). -/
theorem decodeBus_fbAddr (y w : Bool) (j d : Byte) :
    decodeBus (mkKey y w (fbAddr j)) d = .ok (if w then .rdFb y j else .wrFb y j d) := by
  have hfb : fbAddr j &&& 0xFF00 = 0xC000 := by rw [fbMask_iff, toNat_fbAddr]; omega
  rw [decodeBus_mkKey, if_pos hfb, fbIndex_fbAddr]

/-- A reserved register is past the four exact TTY rows (30_encoding R93, rows 11 and 12). -/
theorem decodeBus_ttyAddr_of_reserved (y w : Bool) {r : BitVec 4} (hr : ttyReserved r = true) (d : Byte) :
    decodeBus (mkKey y w (ttyAddr r)) d = .ok (if w then .rdTtyRsvd y r else .wrTtyRsvd y r d) := by
  have hreg : 4 ≤ r.toNat := of_decide_eq_true hr
  have haddr := toNat_ttyAddr r
  have hfb : ¬ ttyAddr r &&& 0xFF00 = 0xC000 := by rw [fbMask_iff]; omega
  have htty : ttyAddr r &&& 0xFFF0 = 0xC100 := by rw [ttyMask_iff]; omega
  have hne {b : Addr} (hb : b.toNat < 0xC104) : ttyAddr r ≠ b := by rintro rfl; omega
  rw [decodeBus_mkKey, if_neg hfb, if_neg (hne (by decide)), if_neg (hne (by decide)), if_neg (hne (by decide)),
    if_neg (hne (by decide)), if_pos htty, ttyIndex_ttyAddr]

/-- Every address outside the special ranges is RAM's (30_encoding R93, rows 15 and 16). -/
theorem decodeBus_of_isRam (y w : Bool) {a : Addr} (ha : Addr.isRam a = true) (d : Byte) :
    decodeBus (mkKey y w a) d = .ok (if w then .rdRam y a else .wrRam y a d) := by
  rw [Machine.routerFollowsAddressMap, Machine.routerReference, Machine.regionOf_of_isRam ha]

/-- A well-formed bus-cycle class is what the router gives the cycle that encodes it. -/
theorem decodeBus_of_encode {i : Instr} (hwf : i.wellFormed = true) {k : CycleKey} {d : Byte}
    (h : encode i = .bus k d) : decodeBus k d = .ok i := by
  cases i with
  | rdFb y j => cases h; exact decodeBus_fbAddr y true j 0
  | wrFb y j d => cases h; exact decodeBus_fbAddr y false j d
  | rdTtyRsvd y r => cases h; exact decodeBus_ttyAddr_of_reserved y true hwf 0
  | wrTtyRsvd y r d => cases h; exact decodeBus_ttyAddr_of_reserved y false hwf d
  | rdRam y a => cases h; exact decodeBus_of_isRam y true hwf 0
  | wrRam y a d => cases h; exact decodeBus_of_isRam y false hwf d
  | rdTtyOstat | wrTtyOstat | rdTtyOdata | wrTtyOdata | rdTtyIstat | wrTtyIstat | rdTtyIdata | wrTtyIdata
  | rdIrqcell | wrIrqcell => cases h; exact decodeBus_mkKey _ _ _ _
  | _ => cases h

/-- The operands that the router assembles are in their ranges: past the four exact TTY rows the register index is at
least 4, and the last two rows are left with RAM (30_encoding R93). -/
theorem wellFormed_of_decodeBus {k : CycleKey} {d : Byte} {i : Instr} (h : decodeBus k d = .ok i) :
    i.wellFormed = true := by
  rw [decodeBus_eq, decodeBus_mkKey] at h
  obtain rfl := Except.ok.inj h
  clear h
  generalize keySync k = y, keyRw k = w, keyAddr k = a
  have hdir {p q : Instr} (hp : p.wellFormed = true) (hq : q.wellFormed = true) :
      (if w = true then p else q).wellFormed = true := by split <;> assumption
  split
  · exact hdir rfl rfl
  next hfb =>
  split
  · exact hdir rfl rfl
  next h0 =>
  split
  · exact hdir rfl rfl
  next h1 =>
  split
  · exact hdir rfl rfl
  next h2 =>
  split
  · exact hdir rfl rfl
  next h3 =>
  split
  · next htty =>
    have hr : ttyReserved (ttyIndex a) = true := by
      rw [ttyMask_iff] at htty
      rw [ttyReserved, decide_eq_true_iff, toNat_ttyIndex]
      bv_omega
    exact hdir hr hr
  next htty =>
  split
  · exact hdir rfl rfl
  next hcell =>
  have hram : Addr.isRam a = true := by
    simp only [Addr.isRam, Bool.and_eq_true, bne_iff_ne]
    exact ⟨⟨hfb, htty⟩, hcell⟩
  exact hdir hram hram

/-! ### The debug core -/

/-- The debug-match classes of a cycle (30_encoding R97). -/
theorem mem_decodeDebug_mkKey (y w : Bool) (a : Addr) (i : Instr) : i ∈ decodeDebug (mkKey y w a) ↔
    (y = true ∧ i = .bpMatch w a) ∨ (w = false ∧ i = .wpwMatch y a) ∨ (w = true ∧ y = false ∧ i = .wprMatch a) := by
  rw [decodeDebug_mkKey]
  cases y <;> cases w <;> simp

/-- The debug core answers a key with the operations that it encodes, and no other. -/
theorem mem_decodeDebug_iff_encode (i : Instr) (k : CycleKey) : i ∈ decodeDebug k ↔ encode i = .debug k := by
  constructor
  · rw [← mkKey_fields k, mem_decodeDebug_mkKey]
    rintro (⟨hy, rfl⟩ | ⟨hw, rfl⟩ | ⟨hw, hy, rfl⟩)
    · rw [hy]; rfl
    · rw [hw]; rfl
    · rw [hw, hy]; rfl
  · intro h
    cases i with
    | bpMatch w a => cases h; exact (mem_decodeDebug_mkKey true w a _).mpr (.inl ⟨rfl, rfl⟩)
    | wpwMatch y a => cases h; exact (mem_decodeDebug_mkKey y false a _).mpr (.inr (.inl ⟨rfl, rfl⟩))
    | wprMatch a => cases h; exact (mem_decodeDebug_mkKey false true a _).mpr (.inr (.inr ⟨rfl, rfl, rfl⟩))
    | _ => cases h

/-! ### The round trip -/

/-- The encoder puts every operation at the port of its kind. -/
theorem port_encode (i : Instr) : (encode i).port = i.port := by cases i <;> rfl

/-- Only bus-cycle classes restrict an operand (30_encoding R102). -/
theorem wellFormed_of_port_ne_bus {i : Instr} (h : i.port ≠ .bus) : i.wellFormed = true := by
  cases i with
  | rdTtyRsvd | wrTtyRsvd | rdRam | wrRam => exact absurd rfl h
  | _ => rfl

/-- Settles O2: each port's decoder reads back what the encoder puts at that port. -/
theorem decodeReadsBackEveryEncoding : Obligations.DecodeReadsBackEveryEncoding := by
  intro i hwf
  have hone : ∀ j ∈ [i], j.wellFormed = true ∧ encode j = encode i := by
    intro j hj
    obtain rfl := List.mem_singleton.mp hj
    exact ⟨hwf, rfl⟩
  cases he : encode i with
  | bus k d =>
    exact ⟨[i], by rw [decode, decodeBus_of_encode hwf he]; rfl, List.mem_singleton_self i, fun _ => rfl, he ▸ hone⟩
  | debug k =>
    have hport {j : Instr} (hj : encode j = .debug k) : j.port = .debug := by rw [← port_encode, hj]; rfl
    refine ⟨decodeDebug k, rfl, (mem_decodeDebug_iff_encode i k).mpr he, fun hp => absurd (hport he) hp, fun j hj => ?_⟩
    have hje := (mem_decodeDebug_iff_encode j k).mp hj
    exact ⟨wellFormed_of_port_ne_bus (by rw [hport hje]; decide), hje⟩
  | host q =>
    exact ⟨[i], by rw [decode, decodeHost_of_encode he]; rfl, List.mem_singleton_self i, fun _ => rfl, he ▸ hone⟩

/-! ### The rows that a key takes -/

/-- No router mask holds the SYNC bit (30_encoding R92). -/
theorem keySync_busRows_mask : ∀ r ∈ busRows, keySync r.mask = false := by decide

/-- A row whose mask leaves SYNC free applies to a key whatever the key's SYNC bit is. -/
theorem applies_sync_irrelevant {r : CycleRow} (hr : keySync r.mask = false) (y y' w : Bool) (a : Addr) :
    r.applies (mkKey y w a) = r.applies (mkKey y' w a) := by
  rw [CycleRow.applies, CycleRow.applies, ← mkKey_fields r.mask, hr, mkKey_and, mkKey_and, Bool.and_false, Bool.and_false]

/-- Settles O3: `find?` answers the first row that applies, and some row applies to every key. -/
theorem routerGivesEachCycleOneClass : Obligations.RouterGivesEachCycleOneClass := by
  refine ⟨fun k d => ?_, keySync_busRows_mask, fun y y' w a => ?_⟩
  · obtain ⟨i, hi, hport⟩ := Machine.exists_bus_class k d
    have hwf := wellFormed_of_decodeBus hi
    cases hrow : busRows.find? (fun r => r.applies k) with
    | none => rw [decodeBus, hrow] at hi; cases hi
    | some r =>
      obtain ⟨happlies, before, after, hsplit, hbefore⟩ := List.find?_eq_some_iff_append.mp hrow
      have hinstr : decodeBus k d = .ok (r.instr k d) := by rw [decodeBus, hrow]
      obtain rfl : i = r.instr k d := Except.ok.inj (hi.symm.trans hinstr)
      refine ⟨before, after, r, hsplit, beq_iff_eq.mp happlies, fun r' hr' happ => ?_, hi, hport, hwf⟩
      have hno := hbefore r' hr'
      simp [CycleRow.applies, happ] at hno
  · exact List.find?_congr fun r hr => applies_sync_irrelevant (keySync_busRows_mask r hr) y y' w a

/-! ### Unassigned codes -/

/-- The codes of the host-operation table lie in four ranges (30_encoding R99). -/
theorem hostRows_codes : ∀ r ∈ hostRows,
    (0x01 ≤ r.1.toNat ∧ r.1.toNat ≤ 0x08) ∨ (0x10 ≤ r.1.toNat ∧ r.1.toNat ≤ 0x1E) ∨
    (0x20 ≤ r.1.toNat ∧ r.1.toNat ≤ 0x25) ∨ (0x30 ≤ r.1.toNat ∧ r.1.toNat ≤ 0x32) := by decide

theorem decodeHost_of_unassigned {q : HostRequest} (h : ∀ r ∈ hostRows, r.1 ≠ q.code) :
    decodeHost q = .error (.unassignedHostCode q.code) := by
  have hnone : hostRows.find? (fun r => r.1 == q.code) = none :=
    List.find?_eq_none.mpr fun r hr => by simpa using h r hr
  rw [decodeHost, hnone]

namespace Machine

/-! ### The debug-match classes -/

variable {a : Addr} {s : State}

/-- The fetch matcher without its enable or its table entry (42_debug_matcher R197). -/
theorem bpCheck_of_off (h : s.bpEnable = false ∨ readBp a s = false) : bpCheck a s = s :=
  if_neg fun ⟨hen, hentry⟩ => by simp [hen, hentry] at h

theorem wpWriteCheck_of_off (h : s.wpEnable = false ∨ readWpWrite a s = false) : wpWriteCheck a s = s :=
  if_neg fun ⟨hen, hentry⟩ => by simp [hen, hentry] at h

theorem wpReadCheck_of_off (h : s.wpEnable = false ∨ readWpRead a s = false) : wpReadCheck a s = s :=
  if_neg fun ⟨hen, hentry⟩ => by simp [hen, hentry] at h

/-- Settles O6: the classes by `decodeDebug_mkKey`, and a matcher that is off by its one condition. -/
theorem debugClassesFollowSyncAndRw : Obligations.DebugClassesFollowSyncAndRw := by
  refine ⟨mem_decodeDebug_mkKey, fun y w a => ?count, fun _ _ _ h => congrArg Host.Outcome.next (bpCheck_of_off h),
    fun _ _ _ h => congrArg Host.Outcome.next (wpWriteCheck_of_off h),
    fun _ _ h => congrArg Host.Outcome.next (wpReadCheck_of_off h)⟩
  case count =>
    rw [decodeDebug_mkKey]
    cases y <;> cases w <;> rfl

/-! ### The classes that a tick runs -/

/-- Settles O10: a tick and exec's arm run one `classEffect`; the matchers go by the SYNC and RW bits. -/
theorem tickRunsItsDecodedClasses : Obligations.TickRunsItsDecodedClasses := by
  refine ⟨fun input s => ?access, fun s hy hw => ?fetchRead, fun s hy hw => ?read, fun s hy hw => ?write,
    fun s hy hw => ⟨bpCheck s.pins.addr s, rfl, ?fetchWrite⟩⟩
  case access =>
    obtain ⟨i, hi, hport, hrun⟩ := runBusCycle_class (tickToAccess input s)
    have hexec : exec i (tickToAccess input s) = .next (runBusCycle (tickToAccess input s)) := by
      rw [hrun, exec_class (by rw [hport]; decide)]
    exact ⟨i, _, hi, wellFormed_of_decodeBus hi, hport, hexec, rfl⟩
  all_goals rw [runMatchers_eq, hy, hw]; rfl

/-! ### Table words and refused requests -/

/-- Settles O1: the decoders run on each word. -/
theorem opcodeTableWordsDecode : Obligations.OpcodeTableWordsDecode := by
  unfold Obligations.OpcodeTableWordsDecode
  decide

theorem step_of_decodeHost_error {q : HostRequest} {rest : List HostRequest} {e : DecodeError}
    (h : s.hostq = q :: rest) (hd : decodeHost q = .error e) : step s = .next (refuseRequest { s with hostq := rest }) := by
  simp [step, fetchRequest_of_hostq_cons h, hd]

/-- Settles O8: a code outside the four ranges is in no row, so the host port's decode fails and the request is refused. -/
theorem unassignedCodeIsRefusedUnchanged : Obligations.UnassignedCodeIsRefusedUnchanged := by
  intro s q rest hq h0 h1 h2 h3
  have hnone : ∀ r ∈ hostRows, r.1 ≠ q.code := by
    intro r hr hcode
    have hranges := hostRows_codes r hr
    rw [hcode] at hranges
    tauto
  exact step_of_decodeHost_error hq (decodeHost_of_unassigned hnone)

end Machine

end Sys2Proof
end

section
/-! PROOFS. The bus-cycle classes that reach no TTY register (40_bus_fabric R130 to R135): which addresses the router gives
each, and what each stores or reads. -/

namespace Sys2Proof

namespace Machine

/-! ### Ranges and masks -/

/-- RAM by ranges: the three regions before it in 20_memory R66 left out. -/
theorem isRam_iff (a : Addr) : Addr.isRam a = true ↔
    ¬(0xC000 ≤ a.toNat ∧ a.toNat ≤ 0xC0FF) ∧ ¬(0xC100 ≤ a.toNat ∧ a.toNat ≤ 0xC10F) ∧ a.toNat ≠ 0x00FF := by
  rw [← fbMask_iff, ← ttyMask_iff]
  simp only [Addr.isRam, Bool.and_eq_true, bne_iff_ne, and_assoc, ne_eq, ← toNat_eq_iff a irqCellAddr]
  rfl

/-- The two frame-buffer rows of 30_encoding R93: their masks leave SYNC out, and their patterns fix RW. -/
theorem mkKey_fbRow_iff (y w : Bool) (a : Addr) : mkKey y w a &&& 0x1FF00 = mkKey false w 0xC000 ↔
    0xC000 ≤ a.toNat ∧ a.toNat ≤ 0xC0FF := by
  rw [show (0x1FF00 : CycleKey) = mkKey false true 0xFF00 by decide, mkKey_and, mkKey_inj, fbMask_iff]
  simp

/-! ### The classes -/

theorem decodeBus_of_fbRange (y w : Bool) {a : Addr} (hlo : 0xC000 ≤ a.toNat) (hhi : a.toNat ≤ 0xC0FF) (d : Byte) :
    decodeBus (mkKey y w a) d =
      .ok (if w then .rdFb y ((a - 0xC000).setWidth 8) else .wrFb y ((a - 0xC000).setWidth 8) d) := by
  rw [← fbIndex_eq_sub, decodeBus_mkKey, if_pos ((fbMask_iff a).mpr ⟨hlo, hhi⟩)]

theorem decodeBus_irqCell (y w : Bool) (d : Byte) :
    decodeBus (mkKey y w irqCellAddr) d = .ok (if w then .rdIrqcell y else .wrIrqcell y d) := decodeBus_mkKey _ _ _ _

/-- Settles O12: the routing by the address's row, the effect by the class's own equation. -/
theorem ramReadPutsTheByteOnData : Obligations.RamReadPutsTheByteOnData :=
  ⟨fun y _ d ha => decodeBus_of_isRam y true ha d, fun _ _ _ => rfl, fun y d => decodeBus_irqCell y true d,
    fun _ _ => rfl⟩

/-- The one store of R131 and R133, with its frame. -/
theorem ramWrite_stores (a : Addr) (d : Byte) (s : State) :
    (∀ b, readMem b (ramWrite a d s) = if b = a then d else readMem b s) ∧
      ramWrite a d s = { s with mem := (ramWrite a d s).mem } :=
  ⟨fun b => readMem_writeMem a b d s, rfl⟩

/-- Settles O13: the ROM area and the gap behind the TTY window are RAM to the router, and both classes are
`ramWrite`. -/
theorem ramWriteStoresExactlyOneByte : Obligations.RamWriteStoresExactlyOneByte := by
  refine ⟨fun y a d ha => decodeBus_of_isRam y false ha d, fun y a d hrom => ?rom, fun y a d hlo hhi => ?gap,
    fun _ a d s => ⟨ramWrite a d s, rfl, ramWrite_stores a d s⟩, fun y d => decodeBus_irqCell y false d,
    fun _ d s => ⟨ramWrite irqCellAddr d s, rfl, ramWrite_stores irqCellAddr d s⟩⟩
  case rom => exact decodeBus_of_isRam y false ((isRam_iff a).mpr (by omega)) d
  case gap => exact decodeBus_of_isRam y false ((isRam_iff a).mpr (by omega)) d

/-- Settles O14: the byte of the shadow read is overwritten by the frame buffer's. -/
theorem frameBufferReadShowsFb : Obligations.FrameBufferReadShowsFb :=
  ⟨fun y _ d hlo hhi => decodeBus_of_fbRange y true hlo hhi d, fun y a => mkKey_fbRow_iff y true a, fun _ _ _ => rfl⟩

/-- Settles O15: the two stores are in two arrays, so each is read back past the other. -/
theorem frameBufferWriteStoresTwice : Obligations.FrameBufferWriteStoresTwice := by
  refine ⟨fun y a d hlo hhi => ⟨decodeBus_of_fbRange y false hlo hhi d, ?addr⟩, fun y a => mkKey_fbRow_iff y false a,
    fun _ i d s => ⟨fbCycleWrite i d s, rfl, fun b => readMem_writeMem (fbAddr i) b d s, fun j => readFb_writeFb i j d _,
      rfl⟩⟩
  case addr =>
    rw [← fbIndex_eq_sub]
    exact fbAddr_fbIndex ((fbMask_iff a).mpr ⟨hlo, hhi⟩)

end Machine

end Sys2Proof
end

section
/-! PROOFS. Every step goes on (60_exceptions R281), and an operation whose reply turns the request down does nothing but
reply (R280). -/

namespace Sys2Proof

namespace Machine

variable {i : Instr} {s t : State}

/-- No operation faults or is refused: those that can turn a request down reply so (60_exceptions R280). -/
theorem exec_goesOn (i : Instr) (s : State) : ∃ t, exec i s = .next t := by
  cases i with
  | loadRom image => simp only [exec, execLoadRom]; split <;> exact ⟨_, rfl⟩
  | memReadBlock a len => simp only [exec, execMemReadBlock]; split <;> exact ⟨_, rfl⟩
  | memWriteBlock a data => simp only [exec, execMemWriteBlock]; split <;> exact ⟨_, rfl⟩
  | _ => exact ⟨_, rfl⟩

/-- The three replies of a request that was turned down (60_exceptions R280). -/
def HostResult.turnsDown : HostResult → Bool
  | .refused | .unsupported | .rangeError => true
  | .none | .pins _ | .signal _ | .run _ | .ok | .nat _ | .addr _ | .bool _ | .byte _ | .bytes _ => false

theorem HostResult.turnsDown_iff (r : HostResult) :
    r.turnsDown = true ↔ r = .refused ∨ r = .unsupported ∨ r = .rangeError := by
  cases r <;> simp [turnsDown]

/-- Where the reply in `t` turns the request down, `t` differs from `s` in the reply only. -/
def OnlyRepliedIfDown (s t : State) : Prop := t.result.turnsDown = true → t = reply t.result s

theorem setWatch_onlyReplied (a : Addr) (kind : Byte) (b : Bool) (s : State) : OnlyRepliedIfDown s (setWatch a kind b s) := by
  unfold setWatch
  split
  · exact nofun
  · exact fun _ => rfl

theorem setByCode_onlyReplied (kind : Byte) (a : Addr) (b : Bool) (s : State) :
    OnlyRepliedIfDown s (setByCode kind a b s) := by
  unfold setByCode
  split
  · exact nofun
  · exact setWatch_onlyReplied a kind b s

/-- Only seven host operations can turn a request down, and they test it before they write. -/
theorem exec_onlyReplied (hport : i.port = .host) (h : exec i s = .next t) : OnlyRepliedIfDown s t := by
  cases i with
  | rdFb | wrFb | rdTtyOstat | wrTtyOstat | rdTtyOdata | wrTtyOdata | rdTtyIstat | wrTtyIstat | rdTtyIdata
  | wrTtyIdata | rdTtyRsvd | wrTtyRsvd | rdIrqcell | wrIrqcell | rdRam | wrRam => cases hport
  | bpMatch | wpwMatch | wprMatch => cases hport
  | loadRom image =>
    simp only [exec, execLoadRom] at h
    split at h <;> cases h
    · exact fun _ => rfl
    · exact nofun
  | memReadBlock a len =>
    simp only [exec, execMemReadBlock] at h
    split at h <;> cases h <;> exact fun _ => rfl
  | memWriteBlock a data =>
    simp only [exec, execMemWriteBlock] at h
    split at h <;> cases h
    · exact fun _ => rfl
    · exact nofun
  | setWp a kind | clrWp a kind => cases h; exact setWatch_onlyReplied a kind _ s
  | insertZ kind a | removeZ kind a => cases h; exact setByCode_onlyReplied kind a _ s
  | _ => cases h; exact nofun

theorem step_goesOn (s : State) : ∃ t, step s = .next t := by
  cases hq : s.hostq with
  | nil => exact ⟨s, step_of_hostq_nil hq⟩
  | cons q rest =>
    cases hd : decodeHost q with
    | ok i => rw [step_of_decodeHost hq hd]; exact exec_goesOn i _
    | error e => exact ⟨_, step_of_decodeHost_error hq hd⟩

/-- Settles O9: a decoded request by `exec_onlyReplied`, an unassigned code by the refusal that answers it. -/
theorem everyStepGoesOn : Obligations.EveryStepGoesOn := by
  refine ⟨step_goesOn, fun s t q rest hq h hdown => ?_⟩
  rw [← HostResult.turnsDown_iff] at hdown
  cases hd : decodeHost q with
  | ok i =>
    rw [step_of_decodeHost hq hd] at h
    exact exec_onlyReplied (port_of_decodeHost hd) h hdown
  | error e =>
    rw [step_of_decodeHost_error hq hd] at h
    cases h
    rfl

end Machine

end Sys2Proof
end

section
/-! PROOFS. The tick against its reference (40_bus_fabric R120, 41_tty_irq R160): the bus access in the TTY window and at
the IRQ cell, beside the two regions above, then each group of the ten steps as the model's own operation. -/

namespace Sys2Proof

namespace Machine

/-! ### The regions of the overlays -/

theorem regionOf_eq_tty_iff (a : Addr) : regionOf a = .tty ↔ 0xC100 ≤ a.toNat ∧ a.toNat ≤ 0xC10F := by
  unfold regionOf
  split
  · exact iff_of_false nofun (by omega)
  split
  · next h => exact iff_of_true rfl h
  next h =>
  refine iff_of_false ?_ h
  split
  · exact nofun
  · exact nofun

theorem eq_irqCellAddr_of_regionOf {a : Addr} (h : regionOf a = .irqCell) : a = irqCellAddr := by
  rw [regionOf_eq_masks] at h
  split at h
  · cases h
  split at h
  · cases h
  split at h
  · next ha => exact ha
  · cases h

/-- The frame-buffer test of R120 step 9 is the region's (20_memory R66). -/
theorem inFbRange_eq_decide (a : Addr) : inFbRange a = decide (regionOf a = .frameBuffer) := by
  rw [Bool.eq_iff_iff, inFbRange_iff, fbMask_iff, decide_eq_true_iff, regionOf_eq_frameBuffer_iff]

/-- The TTY test of R120 step 9 is the region's (90_conflicts C1). -/
theorem inTtyRange_eq_decide (a : Addr) : inTtyRange a = decide (regionOf a = .tty) := by
  rw [Bool.eq_iff_iff, inTtyRange, beq_iff_eq, ttyMask_iff, decide_eq_true_iff, regionOf_eq_tty_iff]

/-- In the TTY window the register index names the address (30_encoding R94). -/
theorem ttyIndex_eq_iff {a : Addr} (h : regionOf a = .tty) (r : BitVec 4) : ttyIndex a = r ↔ a = ttyAddr r := by
  rw [regionOf_eq_tty_iff, ← ttyMask_iff] at h
  constructor
  · rintro rfl; exact (ttyAddr_ttyIndex h).symm
  · rintro rfl; exact ttyIndex_ttyAddr r

/-! ### The bus access -/

theorem ttyAddr_one : ttyAddr 1 = 0xC101 := rfl

theorem ttyAddr_two : ttyAddr 2 = 0xC102 := rfl

theorem ttyAddr_three : ttyAddr 3 = 0xC103 := rfl

section
variable {s : State}

theorem runBusCycle_irqCell (h : regionOf s.pins.addr = .irqCell) :
    runBusCycle s = if s.pins.rw then ramRead s.pins.addr s else ramWrite s.pins.addr s.pins.data s := by
  rw [runBusCycle_eq_router, routerReference, h, eq_irqCellAddr_of_regionOf h]
  cases s.pins.rw <;> rfl

/-- A read in the TTY window: every register but 1, 2 and 3 reads 0x00 (41_tty_irq R162, R164, R166, R168, R170). -/
theorem runBusCycle_tty_read (h : regionOf s.pins.addr = .tty) (hr : s.pins.rw = true) : runBusCycle s =
    if s.pins.addr = 0xC101 then ttyRead 1 0xFF s
    else if s.pins.addr = 0xC102 then ttyRead 2 (inStatus s) s
    else if s.pins.addr = 0xC103 then ttyPopRead s
    else ttyRead (ttyIndex s.pins.addr) 0x00 s := by
  rw [runBusCycle_eq_router, routerReference, h, hr, ← ttyIndex_eq_sub]
  by_cases h0 : s.pins.addr = 0xC100
  · rw [h0]; rfl
  · simp only [if_neg h0, if_true, apply_ite (classEffect · s)]; rfl

/-- A write in the TTY window: every register but 1 ignores it (41_tty_irq R163, R165, R167, R169, R171). -/
theorem runBusCycle_tty_write (h : regionOf s.pins.addr = .tty) (hw : s.pins.rw = false) : runBusCycle s =
    if s.pins.addr = 0xC101 then ttyEmitWrite s.pins.data s
    else ttyWriteIgnored (ttyIndex s.pins.addr) s.pins.data s := by
  rw [runBusCycle_eq_router, routerReference, h, hw, ← ttyIndex_eq_sub]
  by_cases h0 : s.pins.addr = 0xC100
  · rw [h0]; rfl
  by_cases h2 : s.pins.addr = 0xC102
  · rw [h2]; rfl
  by_cases h3 : s.pins.addr = 0xC103
  · rw [h3]; rfl
  simp only [if_neg h0, if_neg h2, if_neg h3, Bool.false_eq_true, if_false, apply_ite (classEffect · s)]
  rfl

end

/-! ### Steps 3 to 6 -/

section
variable {s : State}

theorem ttyPending_iff (s : State) : ttyPending s = true ↔ s.ttyq ≠ [] := by simp [ttyPending]

/-- R240 as it is written first arms the anchor on SYNC, then tests it. -/
theorem anchorReference_eq (pc0 : Addr) (s : State) : anchorReference pc0 s = anchorUpdate pc0 s := by
  have harm : (if s.pins.sync then { s with anchorArmed := true } else s) =
      { s with anchorArmed := s.pins.sync || s.anchorArmed } := by cases s.pins.sync <;> rfl
  simp only [anchorReference, harm, Bool.or_eq_true, anchorUpdate]
  split
  · next htaken => simp [htaken.2]
  · next hkept =>
    have hfield : ((s.pins.sync || s.anchorArmed) && s.pins.addr != pc0) = (s.pins.sync || s.anchorArmed) := by
      rw [Bool.and_eq_left_iff_imp, Bool.or_eq_true, bne_iff_ne]
      exact fun h hpc => hkept ⟨h, hpc⟩
    rw [hfield]

theorem bpCheck_pins (a : Addr) (s : State) : (bpCheck a s).pins = s.pins := by
  unfold bpCheck; split <;> rfl

/-- The reference tests RW and SYNC where the model takes the class of the cycle (42_debug_matcher R197 to R199). -/
theorem matchReference_eq (s : State) : matchReference s = runMatchers s := by
  have hfetch : (if s.bpEnable = true ∧ readBp s.pins.addr s = true ∧ s.pins.sync = true then latchBp s.pins.addr s
      else s) = if s.pins.sync = true then bpCheck s.pins.addr s else s := by
    cases s.pins.sync <;> simp [bpCheck]
  simp only [matchReference, hfetch, runMatchers_eq, wpWriteCheck, wpReadCheck, ite_and]
  cases hy : s.pins.sync <;> cases hw : s.pins.rw <;> simp [bpCheck_pins, hy, hw]

theorem pumpReference_eq (input : List Byte) (s : State) : pumpReference input s = pump input s := by
  have hp := ttyPending_iff (enqueue input s)
  simp only [pumpReference, pump, pumpIrq, hp, enqueue_ttyq]
  split <;> rfl

/-! ### Steps 8 and 9 -/

theorem dequeue_of_nil (h : s.ttyq = []) : dequeue s = s := by
  simp only [dequeue, h, List.tail_nil]
  rw [← h]

/-- R168: the reference's two cases of the queue are one pop. -/
theorem ttyAccessReference_idata (hr : s.pins.rw = true) :
    ttyAccessReference 3 s = irqLiveness (dequeue (setData (queueFront s) s)) := by
  cases hq : s.ttyq with
  | nil =>
    have hpop : dequeue (setData (queueFront s) s) = setData 0x00 s := by
      rw [dequeue_of_nil (by rw [setData_ttyq, hq]), queueFront, hq, List.headD_nil]
    simp [ttyAccessReference, hr, hq, hpop]
  | cons b rest => simp [ttyAccessReference, hr, hq, dequeue, queueFront]

theorem ttyAccessReference_read (r : BitVec 4) (hr : s.pins.rw = true) : ttyAccessReference r s = irqLiveness (
    if r = 1 then setData 0xFF s
    else if r = 2 then setData (inStatus s) s
    else if r = 3 then dequeue (setData (queueFront s) s)
    else setData 0x00 s) := by
  by_cases h3 : r = 3
  · rw [h3, ttyAccessReference_idata hr]; rfl
  by_cases h0 : r = 0
  · simp [ttyAccessReference, hr, h0]
  simp only [ttyAccessReference, hr, if_true, if_neg h0, if_neg h3, inStatus, ttyPending_iff]

theorem ttyAccessReference_write (r : BitVec 4) (hw : s.pins.rw = false) :
    ttyAccessReference r s = irqLiveness (if r = 1 then emit s.pins.data s else s) := by
  simp only [ttyAccessReference, hw, Bool.false_eq_true, if_false]

/-- The TTY's part of steps 8 and 9: the shadow access, then R160. -/
theorem ttyAccessReference_eq (h : regionOf s.pins.addr = .tty) :
    ttyAccessReference (ttyIndex s.pins.addr)
      (if s.pins.rw then shadowRead s.pins.addr s else writeMem s.pins.addr s.pins.data s) = runBusCycle s := by
  have haddr : ttyAddr (ttyIndex s.pins.addr) = s.pins.addr := ((ttyIndex_eq_iff h _).mp rfl).symm
  cases hrw : s.pins.rw with
  | true =>
    have hread : (shadowRead s.pins.addr s).pins.rw = true := hrw
    rw [runBusCycle_tty_read h hrw, if_pos rfl, ttyAccessReference_read _ hread]
    simp only [ttyIndex_eq_iff h, apply_ite irqLiveness, ttyAddr_one, ttyAddr_two, ttyAddr_three]
    split
    · next ha => rw [ha]; rfl
    split
    · next ha => rw [ha]; rfl
    split
    · next ha => rw [ha]; rfl
    · rw [ttyRead, haddr]
  | false =>
    have hwrite : (writeMem s.pins.addr s.pins.data s).pins.rw = false := hrw
    rw [runBusCycle_tty_write h hrw, if_neg Bool.false_ne_true, ttyAccessReference_write _ hwrite]
    simp only [ttyIndex_eq_iff h, apply_ite irqLiveness, ttyAddr_one]
    split
    · next ha => rw [ha]; rfl
    · rw [ttyWriteIgnored, haddr]

/-- The two forms of the index in R120 step 9. -/
theorem ttyIndex_eq_mask (a : Addr) : ((a - ttyBase) &&& 0x0F).setWidth 4 = ttyIndex a := by
  rw [ttyIndex_eq_sub, BitVec.setWidth_and]
  exact BitVec.and_allOnes

/-- One overlay at most claims the cycle, and its region decides which (90_conflicts C6). -/
theorem accessReference_eq (s : State) : accessReference s = runBusCycle s := by
  simp only [accessReference, inFbRange_eq_decide, inTtyRange_eq_decide, ttyIndex_eq_mask, ← fbIndex_eq_sub]
  cases h : regionOf s.pins.addr with
  | frameBuffer =>
    have haddr : fbAddr (fbIndex s.pins.addr) = s.pins.addr :=
      fbAddr_fbIndex ((inFbRange_iff _).mp (by rw [inFbRange_eq_decide, h]; rfl))
    rw [runBusCycle_frameBuffer h, fbCycleRead, fbCycleWrite, haddr]
    cases hrw : s.pins.rw with
    | true => simp [hrw, shadowRead]
    | false => simp [hrw]
  | tty => exact ttyAccessReference_eq h
  | irqCell => rw [runBusCycle_irqCell h]; cases s.pins.rw <;> rfl
  | ram => rw [runBusCycle_ram h]; cases s.pins.rw <;> rfl

/-- Settles O11: the reference's groups of steps are the model's, one lemma each. -/
theorem tickIsTheTenStepAlgorithm : Obligations.TickIsTheTenStepAlgorithm := by
  intro input s
  simp only [tickReference, anchorReference_eq, matchReference_eq, pumpReference_eq, accessReference_eq]
  rfl

end

end Machine

end Sys2Proof
end

section
/-! PROOFS. What the CPU sees after a tick (40_bus_fabric R121, R125): DATA by the region of the cycle, and every other pin
as the CPU drove it. -/

namespace Sys2Proof

namespace Machine

/-! ### The cell and the queue that a bus access sees -/

theorem inStatus_eq (s : State) : inStatus s = if s.ttyq = [] then 0x00 else 0x01 := by
  simp only [inStatus, ttyPending_iff, ne_eq, ite_not]

/-- The pump sets bit 1 of the cell where bytes wait (41_tty_irq R161). -/
theorem irqCell_pump (input : List Byte) (s : State) :
    irqCell (pump input s) = if s.ttyq ++ input = [] then irqCell s else irqCell s ||| ttyIrqMask := by
  rw [← pumpReference_eq, pumpReference]
  by_cases h : s.ttyq ++ input = []
  · simp only [h, ne_eq, not_true_eq_false, if_false, if_true]; rfl
  · simp only [h, ne_eq, not_false_eq_true, if_true, if_false]
    exact readMem_writeMem irqCellAddr irqCellAddr _ _

section
variable (input : List Byte) (s : State)

/-- Step 1 has cleared the cell, so the pump alone decides it (40_bus_fabric R120). -/
theorem irqCell_tickToAccess : irqCell (tickToAccess input s) = if s.ttyq ++ input = [] then 0x00 else 0x02 := by
  have hcell : irqCell (runMatchers (tickStart s)) = 0x00 := by
    rw [runMatchers_frame]
    exact readMem_writeMem irqCellAddr irqCellAddr 0x00 s
  have hq : (runMatchers (tickStart s)).ttyq = s.ttyq := by rw [runMatchers_frame]; rfl
  calc irqCell (tickToAccess input s)
      = irqCell (pump input (runMatchers (tickStart s))) := rfl
    _ = if s.ttyq ++ input = [] then 0x00 else 0x02 := by rw [irqCell_pump, hcell, hq]; rfl

theorem tickToAccess_ttyq : (tickToAccess input s).ttyq = s.ttyq ++ input := by rw [tickToAccess_frame]

/-! ### DATA after a read -/

variable {input s}

theorem tick_data_of_irqCell_read (ha : regionOf (cpuTick s.cpu s.pins).2.addr = .irqCell)
    (hr : (cpuTick s.cpu s.pins).2.rw = true) :
    (tick input s).pins.data = if s.ttyq ++ input = [] then 0x00 else 0x02 := by
  rw [← tickToAccess_addr input] at ha
  rw [← tickToAccess_rw input] at hr
  rw [tick_pins, runBusCycle_irqCell ha, if_pos hr, eq_irqCellAddr_of_regionOf ha]
  exact irqCell_tickToAccess input s

theorem tick_data_of_tty_read (ha : regionOf (cpuTick s.cpu s.pins).2.addr = .tty)
    (hr : (cpuTick s.cpu s.pins).2.rw = true) : (tick input s).pins.data =
      if (cpuTick s.cpu s.pins).2.addr = 0xC101 then 0xFF
      else if (cpuTick s.cpu s.pins).2.addr = 0xC102 then (if s.ttyq ++ input = [] then 0x00 else 0x01)
      else if (cpuTick s.cpu s.pins).2.addr = 0xC103 then (s.ttyq ++ input).headD 0x00
      else 0x00 := by
  rw [← tickToAccess_addr input] at ha ⊢
  rw [← tickToAccess_rw input] at hr
  rw [tick_pins, runBusCycle_tty_read ha hr, inStatus_eq, tickToAccess_ttyq]
  simp only [apply_ite (fun u : State => u.pins.data)]
  rw [← tickToAccess_ttyq]
  rfl

/-- Settles O49: one lemma per region; the overlay's byte, or the backing array's, is the one the bus access leaves. -/
theorem dataBusShowsOverlayElseMemory : Obligations.DataBusShowsOverlayElseMemory := by
  refine fun input s => ⟨fun hr => ?_, tick_data_of_write input s⟩
  have hr' := (tick_rw input s).trans hr
  have haddr := tick_addr input s
  cases h : regionOf (cpuTick s.cpu s.pins).2.addr with
  | frameBuffer => rw [tick_data_of_frameBuffer_read h hr' haddr, fbIndex_eq_sub]
  | tty => exact tick_data_of_tty_read h hr
  | irqCell => exact tick_data_of_irqCell_read h hr
  | ram => exact tick_data_of_ram_read h hr' haddr

end

/-! ### The other pins -/

theorem tick_pins_passThrough (input : List Byte) (s : State) : (tick input s).pins = { (cpuTick s.cpu s.pins).2 with
    data := (tick input s).pins.data, irq := (tick input s).pins.irq, nmi := (tick input s).pins.nmi } := by
  rw [tick_pins, tickToAccess_frame]

theorem tick_cpu (input : List Byte) (s : State) : (tick input s).cpu = (cpuTick s.cpu s.pins).1 := by
  rw [tick_frame]

/-- Settles O51: the pass-through of a tick, in RESET from the pin word with RES driven and then RES released. -/
theorem blockWritesOnlyItsPins : Obligations.BlockWritesOnlyItsPins := by
  refine ⟨fun input s => ⟨tick_pins_passThrough input s, tick_data_of_write input s⟩, fun input s t h => ?reset, tick_cpu⟩
  case reset =>
    obtain rfl : t = reply .none (blockReset input s) := by cases h; rfl
    exact congrArg (fun p : Pins => { p with res := false }) (tick_pins_passThrough input (resetPrepare s))

end Machine

end Sys2Proof
end

section
/-! PROOFS. The TTY's register classes (41_tty_irq R160 to R172): which cycles the router gives them, and what a read, an
ignored write, an emitting write and a pop each do to every byte and every field. -/

namespace Sys2Proof

/-! ### Routing -/

/-- The two forms of the address in 30_encoding R94, read backwards. -/
theorem ttyAddr_eq_add (r : BitVec 4) : ttyAddr r = 0xC100 + r.setWidth 16 := by
  apply BitVec.eq_of_toNat_eq
  rw [toNat_ttyAddr]
  bv_omega

theorem ttyAddr_ne_irqCellAddr (r : BitVec 4) : ttyAddr r ≠ irqCellAddr := by
  have haddr := toNat_ttyAddr r
  bv_omega

theorem decodeBus_reservedRegister (y w : Bool) {r : BitVec 4} (hr : 4 ≤ r.toNat) (d : Byte) :
    decodeBus (mkKey y w (0xC100 + r.setWidth 16)) d = .ok (if w then .rdTtyRsvd y r else .wrTtyRsvd y r d) := by
  rw [← ttyAddr_eq_add]
  exact decodeBus_ttyAddr_of_reserved y w (decide_eq_true hr) d

/-- The in-status read row of 30_encoding R93: its mask leaves out SYNC alone. -/
theorem mkKey_inStatusRow_iff (y w : Bool) (a : Addr) :
    mkKey y w a &&& 0x1FFFF = 0x1C102 ↔ w = true ∧ a = 0xC102 := by
  have hmask : (0x1FFFF : CycleKey) = mkKey false true 0xFFFF := by decide
  have hpat : (0x1C102 : CycleKey) = mkKey false true 0xC102 := by decide
  have hfull : a &&& 0xFFFF = a := BitVec.and_allOnes
  rw [hmask, hpat, mkKey_and, mkKey_inj, hfull]
  simp

namespace Machine

/-! ### IrqLiveness -/

/-- R172 by the queue itself. -/
theorem irqCell_irqLiveness_eq (s : State) :
    irqCell (irqLiveness s) = (irqCell s &&& 0xFD) ||| (if s.ttyq = [] then 0x00 else 0x02) := by
  rw [irqCell_irqLiveness]
  simp only [ttyPending_iff, ne_eq, ite_not]

theorem irqCell_writeMem_of_ne {a : Addr} (ha : a ≠ irqCellAddr) (v : Byte) (s : State) :
    irqCell (writeMem a v s) = irqCell s :=
  (readMem_writeMem a irqCellAddr v s).trans (if_neg ha.symm)

/-! ### The four kinds of access -/

/-- A read that leaves the queue alone: DATA, and bit 1 of the cell (R162, R164, R166, R170). -/
theorem ttyRead_effect (r : BitVec 4) (v : Byte) (s : State) :
    (ttyRead r v s).pins = { s.pins with data := v } ∧
    (∀ b, b ≠ 0x00FF → readMem b (ttyRead r v s) = readMem b s) ∧
    readMem 0x00FF (ttyRead r v s) = (readMem 0x00FF s &&& 0xFD) ||| (if s.ttyq = [] then 0x00 else 0x02) ∧
    ttyRead r v s = { s with pins := (ttyRead r v s).pins, mem := (ttyRead r v s).mem } :=
  ⟨rfl, fun _ hb => readMem_irqLiveness hb _, irqCell_irqLiveness_eq _, rfl⟩

/-- The shadow write of step 8 under IrqLiveness, on a byte outside the cell. -/
theorem readMem_ttyWriteIgnored {b : Addr} (hb : b ≠ irqCellAddr) (r : BitVec 4) (d : Byte) (s : State) :
    readMem b (ttyWriteIgnored r d s) = if b = ttyAddr r then d else readMem b s :=
  (readMem_irqLiveness hb _).trans (readMem_writeMem (ttyAddr r) b d s)

theorem irqCell_ttyWriteIgnored (r : BitVec 4) (d : Byte) (s : State) :
    irqCell (ttyWriteIgnored r d s) = (irqCell s &&& 0xFD) ||| (if s.ttyq = [] then 0x00 else 0x02) := by
  rw [ttyWriteIgnored, irqCell_irqLiveness_eq, irqCell_writeMem_of_ne (ttyAddr_ne_irqCellAddr r), writeMem_ttyq]

/-- A write with no device effect (R163, R167, R169, R171). -/
theorem ttyWriteIgnored_effect {a : Addr} {r : BitVec 4} (ha : ttyAddr r = a) (d : Byte) (s : State) :
    (∀ b, b ≠ 0x00FF → readMem b (ttyWriteIgnored r d s) = if b = a then d else readMem b s) ∧
    readMem 0x00FF (ttyWriteIgnored r d s) = (readMem 0x00FF s &&& 0xFD) ||| (if s.ttyq = [] then 0x00 else 0x02) ∧
    ttyWriteIgnored r d s = { s with mem := (ttyWriteIgnored r d s).mem } := by
  subst ha
  exact ⟨fun _ hb => readMem_ttyWriteIgnored hb r d s, irqCell_ttyWriteIgnored r d s, rfl⟩

/-- The write of out-data is the shadow write of any register, with one byte emitted (R165). -/
theorem ttyEmitWrite_eq (d : Byte) (s : State) : ttyEmitWrite d s = emit d (ttyWriteIgnored 1 d s) := rfl

theorem ttyPopRead_ttyq (s : State) : (ttyPopRead s).ttyq = s.ttyq.tail := rfl

theorem ttyPopRead_pins (s : State) : (ttyPopRead s).pins = { s.pins with data := queueFront s } := rfl

/-- IrqLiveness follows the pop, so bit 1 of the cell is that of the queue left (R168, R172). -/
theorem irqCell_ttyPopRead (s : State) :
    irqCell (ttyPopRead s) = (irqCell s &&& 0xFD) ||| (if (ttyPopRead s).ttyq = [] then 0x00 else 0x02) :=
  irqCell_irqLiveness_eq _

/-! ### The statements -/

/-- Settles O16: the three classes are one read with its constant. -/
theorem ttyConstantRegistersRead : Obligations.TtyConstantRegistersRead :=
  ⟨fun _ _ => ⟨decodeBus_mkKey _ _ _ _, decodeBus_mkKey _ _ _ _⟩, fun y _ d hr => decodeBus_reservedRegister y true hr d,
    fun _ s => ⟨_, rfl, ttyRead_effect 0 0x00 s⟩, fun _ s => ⟨_, rfl, ttyRead_effect 1 0xFF s⟩,
    fun _ r s => ⟨_, rfl, ttyRead_effect r 0x00 s⟩⟩

/-- Settles O17: the same read with the queue's non-emptiness as its value; in a tick the bus access sees the queue
after the pump, and the queue is popped at 0xC103 only. -/
theorem inStatusReadsQueueNonEmpty : Obligations.InStatusReadsQueueNonEmpty := by
  refine ⟨fun _ _ => decodeBus_mkKey _ _ _ _, mkKey_inStatusRow_iff, fun _ s => ⟨_, rfl, ?read⟩,
    fun input s hr ha => ⟨?value, ?queue⟩⟩
  case read => rw [← inStatus_eq]; exact ttyRead_effect 2 (inStatus s) s
  case value =>
    rw [tick_rw] at hr
    rw [tick_addr] at ha
    exact (tick_data_of_tty_read (by rw [ha]; decide) hr).trans (by rw [ha]; rfl)
  case queue => rw [tick_ttyq, ha, if_neg fun hpop => absurd hpop.2 (by decide)]

/-- Settles O18: the front and the rest of the queue in its two cases; IrqLiveness comes after the pop. -/
theorem inDataReadPopsTheFront : Obligations.InDataReadPopsTheFront := by
  refine ⟨fun _ _ => decodeBus_mkKey _ _ _ _, fun _ s => ⟨ttyPopRead s, rfl, fun b rest hq => ?front, fun hq => ?empty,
    fun _ hb => readMem_irqLiveness hb _, irqCell_ttyPopRead s, rfl⟩⟩
  case front => rw [ttyPopRead_pins, ttyPopRead_ttyq, queueFront, hq]; exact ⟨rfl, rfl⟩
  case empty => rw [ttyPopRead_pins, ttyPopRead_ttyq, queueFront, hq]; exact ⟨rfl, rfl⟩

/-- Settles O19: the four classes are one ignored write at the register's address. -/
theorem ignoredTtyWritesOnlyShadow : Obligations.IgnoredTtyWritesOnlyShadow :=
  ⟨fun _ _ => decodeBus_mkKey _ _ _ _, fun _ d s => ⟨_, rfl, ttyWriteIgnored_effect (r := 0) rfl d s⟩,
    fun _ _ => decodeBus_mkKey _ _ _ _, fun _ d s => ⟨_, rfl, ttyWriteIgnored_effect ttyAddr_two d s⟩,
    fun _ _ => decodeBus_mkKey _ _ _ _, fun _ d s => ⟨_, rfl, ttyWriteIgnored_effect ttyAddr_three d s⟩,
    fun y _ d hr => decodeBus_reservedRegister y false hr d,
    fun _ r d s => ⟨_, rfl, ttyWriteIgnored_effect (ttyAddr_eq_add r) d s⟩⟩

/-- Settles O20: beside the sink, the write of out-data does what an ignored write does. -/
theorem outDataWriteEmitsOneByte : Obligations.OutDataWriteEmitsOneByte := by
  refine ⟨fun _ _ => decodeBus_mkKey _ _ _ _, fun _ d s => ⟨ttyEmitWrite d s, rfl, rfl, ?_⟩⟩
  obtain ⟨hbytes, hcell, _⟩ := ttyWriteIgnored_effect ttyAddr_one d s
  rw [ttyEmitWrite_eq]
  exact ⟨hbytes, hcell, rfl⟩

end Machine

end Sys2Proof
end

section
/-! PROOFS. The IRQ cell and the IRQ line of a tick (41_tty_irq R172, R177, R178), and the two host operations on the queue
(R173, R174). -/

namespace Sys2Proof

namespace Machine

variable {s u : State}

/-! ### The cell after a tick -/

/-- The IRQ cell says whether bytes wait, and nothing else: the value that the pump leaves in it (41_tty_irq R178). -/
def CellFollowsQueue (s : State) : Prop := irqCell s = if s.ttyq = [] then 0x00 else 0x02

/-- `CellFollowsQueue` reads the cell and the queue. -/
theorem CellFollowsQueue.congr (h : CellFollowsQueue s) (hcell : irqCell u = irqCell s) (hq : u.ttyq = s.ttyq) :
    CellFollowsQueue u := by
  unfold CellFollowsQueue
  rw [hcell, hq]
  exact h

theorem CellFollowsQueue.otherBits_zero (h : CellFollowsQueue s) : irqCell s &&& 0xFD = 0x00 := by
  rw [h]; split <;> decide

/-- IrqLiveness sets bit 1 from the queue, so the other seven bits being 0 is enough. -/
theorem cellFollowsQueue_irqLiveness (h : irqCell s &&& 0xFD = 0x00) : CellFollowsQueue (irqLiveness s) := by
  unfold CellFollowsQueue
  rw [irqCell_irqLiveness_eq, h]
  exact BitVec.zero_or

theorem cellFollowsQueue_tickToAccess (input : List Byte) (s : State) : CellFollowsQueue (tickToAccess input s) := by
  unfold CellFollowsQueue
  rw [irqCell_tickToAccess, tickToAccess_ttyq]

/-- The cell can leave the queue's value in one way, a write cycle of the cell's own address: every access that changes
the queue ends with IrqLiveness. -/
theorem CellFollowsQueue.afterBusCycle (h : CellFollowsQueue s)
    (hcycle : ¬(s.pins.rw = false ∧ s.pins.addr = irqCellAddr)) : CellFollowsQueue (runBusCycle s) := by
  cases hrw : s.pins.rw with
  | true =>
    obtain ⟨_, e⟩ | ⟨_, e | e | ⟨r, v, e⟩⟩ := runBusCycle_read hrw <;> rw [e]
    · exact cellFollowsQueue_irqLiveness h.otherBits_zero
    · exact h
    · exact h
    · exact cellFollowsQueue_irqLiveness h.otherBits_zero
  | false =>
    have ha : s.pins.addr ≠ irqCellAddr := fun ha => hcycle ⟨hrw, ha⟩
    have hstored : CellFollowsQueue (writeMem s.pins.addr s.pins.data s) :=
      h.congr (irqCell_writeMem_of_ne ha _ s) rfl
    obtain e | ⟨haddr, e⟩ | ⟨haddr, e⟩ | ⟨r, haddr, e⟩ := runBusCycle_write hrw <;> rw [e]
    · exact hstored
    · rw [fbCycleWrite, haddr]; exact hstored
    · rw [ttyEmitWrite, haddr]; exact cellFollowsQueue_irqLiveness hstored.otherBits_zero
    · rw [ttyWriteIgnored, haddr]; exact cellFollowsQueue_irqLiveness hstored.otherBits_zero

/-- A write cycle of the cell stores its byte there (40_bus_fabric R133). -/
theorem irqCell_runBusCycle_of_write (hw : s.pins.rw = false) (ha : s.pins.addr = irqCellAddr) :
    irqCell (runBusCycle s) = s.pins.data := by
  have hregion : regionOf s.pins.addr = .irqCell := by rw [ha]; rfl
  rw [runBusCycle_irqCell hregion, hw, ha]
  exact readMem_writeMem irqCellAddr irqCellAddr _ s

section
variable (input : List Byte) (s : State)

theorem irqCell_tick : irqCell (tick input s) =
    if (tick input s).pins.rw = false ∧ (tick input s).pins.addr = irqCellAddr then (tick input s).pins.data
    else if (tick input s).ttyq = [] then 0x00 else 0x02 := by
  rw [tick_pins]
  split
  · next hcycle =>
    obtain ⟨hw, ha⟩ := hcycle
    exact (irqCell_runBusCycle_of_write hw ha).trans (runBusCycle_data_of_write hw).symm
  · next hcycle => exact (cellFollowsQueue_tickToAccess input s).afterBusCycle hcycle

/-! ### The line -/

theorem tickToAccess_cfg : (tickToAccess input s).cfg = s.cfg := by rw [tickToAccess_frame]

/-- The line is driven in step 7, before the bus access can change the cell (41_tty_irq R177). -/
theorem tick_irq_eq_cell : (tick input s).pins.irq =
    irqEncode s.cfg.irqPinPolarity (irqCell (tickToAccess input s) != 0x00) := by
  rw [tick_pins, ← tickToAccess_cfg input s]
  rfl

theorem irqCell_tickToAccess_ne_zero_iff : irqCell (tickToAccess input s) ≠ 0x00 ↔ s.ttyq ++ input ≠ [] := by
  rw [irqCell_tickToAccess]
  split
  · next hq => exact iff_of_false (fun hne => hne rfl) (fun hne => hne hq)
  · next hq => exact iff_of_true (by decide) hq

theorem tick_irq : (tick input s).pins.irq =
    irqEncode s.cfg.irqPinPolarity (decide (s.ttyq ++ input ≠ [])) := by
  have hcell : (irqCell (tickToAccess input s) != 0x00) = decide (s.ttyq ++ input ≠ []) := by
    rw [Bool.eq_iff_iff, bne_iff_ne, decide_eq_true_iff, irqCell_tickToAccess_ne_zero_iff]
  rw [tick_irq_eq_cell, hcell]

end

/-- Settles O47: the cell by `irqCell_tick`, the line from the cell as the pump left it. -/
theorem irqCellAndLineAfterATick : Obligations.IrqCellAndLineAfterATick :=
  ⟨fun input s => ⟨irqCell_tick input s, tick_irq_eq_cell input s, irqCell_tickToAccess_ne_zero_iff input s⟩,
    ⟨rfl, rfl, rfl, rfl⟩, fun input later s => tick_cpu later (tick input s)⟩

/-! ### TTY_INJECT and TTY_RESET -/

/-- A write of the cell that is computed from its old byte (41_tty_irq R173, R174). -/
theorem readMem_writeCell (f : Byte → Byte) (s : State) (a : Addr) :
    readMem a (writeMem irqCellAddr (f (irqCell s)) s) = if a = 0x00FF then f (readMem a s) else readMem a s := by
  rw [readMem_writeMem]
  split
  · next ha => rw [ha]; rfl
  · rfl

/-- Settles O45: the byte waits, so the next tick's pump sets the bit whatever that tick delivers. -/
theorem injectAppendsAndSetsTheBit : Obligations.InjectAppendsAndSetsTheBit := by
  refine ⟨fun _ => rfl, fun b s => ⟨reply .none (ttyInject b s), rfl, rfl,
    readMem_writeCell (· ||| 0x02) (enqueue [b] s), rfl⟩, fun b input s t h => ?next⟩
  case next =>
    have hq : t.ttyq = s.ttyq ++ [b] := by cases h; rfl
    exact (irqCell_tickToAccess input t).trans (if_neg (by simp [hq]))

/-- Writing a byte that is there already changes nothing of a canonical array. -/
theorem Memory.write_write_self {size a : Nat} (ha : a < size) (v : Byte) {m : Memory} (hm : m.wf size = true) :
    (m.write a v).write a v = m.write a v := by
  have hwritten : (m.write a v).wf size = true := Memory.wf_write v ha hm
  have hread (b : Nat) : ((m.write a v).write a v).read b = (m.write a v).read b := by
    simp only [Memory.read_write]
    split <;> rfl
  exact Sparse.ext_of_wf (Memory.wf_write v ha hwritten) hwritten hread

theorem ttyReset_ttyReset (hm : s.mem.wf memSize = true) : ttyReset (ttyReset s) = ttyReset s := by
  have hcell : irqCell (ttyReset s) &&& 0xFD = irqCell s &&& 0xFD := by
    have hread : irqCell (ttyReset s) = irqCell s &&& 0xFD := readMem_writeMem irqCellAddr irqCellAddr _ _
    rw [hread, BitVec.and_assoc, BitVec.and_self]
  have hmem : (ttyReset (ttyReset s)).mem = (ttyReset s).mem := by
    show (ttyReset s).mem.write _ (irqCell (ttyReset s) &&& 0xFD) = _
    rw [hcell]
    exact Memory.write_write_self irqCellAddr.isLt _ hm
  exact congrArg (fun m => { ttyReset s with mem := m }) hmem

/-- RESET begins with TTY_RESET (43_step_reset R234). -/
theorem resetPrepare_ttyReset (hm : s.mem.wf memSize = true) : resetPrepare (ttyReset s) = resetPrepare s := by
  unfold resetPrepare
  rw [ttyReset_ttyReset hm]

/-! ### The reply does not reach a tick -/

theorem classEffect_reply (i : Instr) (r : HostResult) (s : State) :
    classEffect i (reply r s) = reply r (classEffect i s) := by
  cases i with
  | bpMatch w a => simp only [classEffect, bpCheck, apply_ite (reply r)]; rfl
  | wpwMatch y a => simp only [classEffect, wpWriteCheck, apply_ite (reply r)]; rfl
  | wprMatch a => simp only [classEffect, wpReadCheck, apply_ite (reply r)]; rfl
  | _ => rfl

theorem runMatchers_reply (r : HostResult) (s : State) : runMatchers (reply r s) = reply r (runMatchers s) :=
  List.foldl_hom (reply r) fun t i => classEffect_reply i r t

theorem runBusCycle_reply (r : HostResult) (s : State) : runBusCycle (reply r s) = reply r (runBusCycle s) := by
  rw [runBusCycle_eq_router, runBusCycle_eq_router]
  exact classEffect_reply _ r s

theorem tick_reply (input : List Byte) (r : HostResult) (s : State) :
    tick input (reply r s) = reply r (tick input s) := by
  have haccess : tickToAccess input (reply r s) = reply r (tickToAccess input s) :=
    congrArg (driveLines ∘ pump input) (runMatchers_reply r (tickStart s))
  rw [tick, haccess, runBusCycle_reply]
  rfl

/-- RESET with its parts written out (43_step_reset R234). -/
theorem exec_reset_eq (input : List Byte) (s : State) : exec (.reset input) s =
    .next (reply .none (driveRes false (tick input (resetPrepare s)))) := rfl

/-- RESET after any reply: its own reply replaces it. -/
theorem exec_reset_reply (input : List Byte) (r : HostResult) (s : State) :
    exec (.reset input) (reply r s) = exec (.reset input) s := by
  have hprepare : resetPrepare (reply r s) = reply r (resetPrepare s) := rfl
  rw [exec_reset_eq, hprepare, tick_reply]
  rfl

/-- Settles O46: TTY_RESET done twice is TTY_RESET, and RESET begins with it; the reply between them is lost. -/
theorem ttyResetEmptiesTheQueue : Obligations.TtyResetEmptiesTheQueue := by
  have hreset {s t : State} (h : exec .ttyReset s = .next t) : t = reply .none (ttyReset s) := by cases h; rfl
  refine ⟨rfl, fun s => ⟨reply .none (ttyReset s), rfl, rfl, readMem_writeCell (· &&& 0xFD) { s with ttyq := [] }, rfl⟩,
    fun input s t h => ?line, fun input s t hm h => ?reset⟩
  case line => rw [hreset h]; exact tick_irq input _
  case reset => rw [hreset h, exec_reset_reply, exec_reset_eq, exec_reset_eq, resetPrepare_ttyReset hm]

end Machine

end Sys2Proof
end

section
/-! PROOFS. The TTY queue over every operation (41_tty_irq R179): what removes a byte, what appends one, and what leaves the
queue alone. -/

namespace Sys2Proof

namespace Machine

variable {i : Instr} {s t : State}

/-! ### Operations that leave the queue alone -/

theorem setWatch_ttyq (a : Addr) (kind : Byte) (b : Bool) (s : State) : (setWatch a kind b s).ttyq = s.ttyq := by
  unfold setWatch; split <;> rfl

theorem setByCode_ttyq (kind : Byte) (a : Addr) (b : Bool) (s : State) : (setByCode kind a b s).ttyq = s.ttyq := by
  unfold setByCode
  split
  · rfl
  · exact setWatch_ttyq a kind b s

theorem backdoorWrite_ttyq (a : Addr) (d : Byte) (s : State) : (backdoorWrite a d s).ttyq = s.ttyq := by
  rw [backdoorWrite_eq]

theorem backdoorWriteList_ttyq (bs : List Byte) (a : Addr) (s : State) :
    (backdoorWriteList a bs s).ttyq = s.ttyq := by
  rw [backdoorWriteList_eq]

theorem ttyq_of_exec_debug (hport : i.port = .debug) (h : exec i s = .next t) : t.ttyq = s.ttyq := by
  rw [exec_class (by rw [hport]; decide)] at h
  cases h
  rw [classEffect_debug hport]

/-! ### The ticks of STEP and RUN -/

theorem exec_step_runTicks (h : exec .step s = .next t) : ∃ n r, t = reply r (runTicks n s) := by
  obtain ⟨n, hn⟩ := stepLoop_runTicks (s.cfg.stepGuard - 1) s
  cases h
  exact ⟨n, _, congrArg (reply _) hn⟩

theorem exec_run_runTicks {budget : Nat} (h : exec (.run budget) s = .next t) : ∃ n r, t = reply r (runTicks n s) := by
  obtain ⟨n, hn⟩ := runLoop_runTicks budget 0 s
  cases h
  exact ⟨n, _, congrArg (reply _) hn⟩

/-- A tick of STEP or RUN: the draw enters at the back, then the front byte leaves where the cycle reads 0xC103. -/
theorem tickDrawn_ttyq (s : State) : (tickDrawn s).ttyq =
    if (tickDrawn s).pins.rw = true ∧ (tickDrawn s).pins.addr = 0xC103
    then (s.ttyq ++ s.inputs.headD []).tail else s.ttyq ++ s.inputs.headD [] :=
  tick_ttyq (s.inputs.headD []) { s with inputs := s.inputs.tail }

/-- The `m`-th of the ticks takes the `m`-th draw. -/
theorem runTicks_succ_ttyq (m : Nat) (s : State) : (runTicks (m + 1) s).ttyq =
    if (runTicks (m + 1) s).pins.rw = true ∧ (runTicks (m + 1) s).pins.addr = 0xC103
    then ((runTicks m s).ttyq ++ s.inputs.getD m []).tail else (runTicks m s).ttyq ++ s.inputs.getD m [] := by
  have hdraw : s.inputs.getD m [] = (runTicks m s).inputs.headD [] := by
    rw [runTicks_inputs, List.headD_eq_head?_getD, List.head?_drop, List.getD_eq_getElem?_getD]
  rw [runTicks_succ_last, hdraw]
  exact tickDrawn_ttyq (runTicks m s)

/-- Settles O54: each operation by its own equation, a tick by `tick_ttyq`, STEP and RUN by the ticks they ran, RESET by
its tick from the queue that `resetPrepare` emptied. -/
theorem queueIsFirstInFirstOut : Obligations.QueueIsFirstInFirstOut := by
  intro i s t h
  cases i with
  | tick input => cases h; exact tick_ttyq input s
  | reset input => cases h; exact tick_ttyq input (resetPrepare s)
  | step =>
    obtain ⟨n, r, rfl⟩ := exec_step_runTicks h
    exact ⟨n, rfl, runTicks_tickCount n s, runTicks_inputs n s, fun m _ => runTicks_succ_ttyq m s⟩
  | run budget =>
    obtain ⟨n, r, rfl⟩ := exec_run_runTicks h
    exact ⟨n, rfl, runTicks_tickCount n s, runTicks_inputs n s, fun m _ => runTicks_succ_ttyq m s⟩
  | rdTtyIdata | ttyReset | ttyInject => cases h; rfl
  | bpMatch | wpwMatch | wprMatch => exact ttyq_of_exec_debug rfl h
  | loadRom image =>
    simp only [exec, execLoadRom] at h
    split at h <;> cases h <;> rfl
  | setWp a kind | clrWp a kind => cases h; exact setWatch_ttyq a kind _ s
  | insertZ kind a | removeZ kind a => cases h; exact setByCode_ttyq kind a _ s
  | memWrite a d => cases h; exact backdoorWrite_ttyq a d s
  | memReadBlock a len =>
    simp only [exec, execMemReadBlock] at h
    split at h <;> cases h <;> rfl
  | memWriteBlock a data =>
    simp only [exec, execMemWriteBlock] at h
    split at h <;> cases h
    · rfl
    · exact backdoorWriteList_ttyq data a s
  | _ => cases h; rfl

end Machine

end Sys2Proof
end

section
/-! PROOFS. The host operations of the debug core, one request each (42_debug_matcher R190 to R196, R202 to R210): what a
write by type code does, and what the enables, the reads and the clears leave. -/

namespace Sys2Proof

namespace Machine

variable (a : Addr) (k : Byte) (b : Bool) (s : State)

/-! ### Table entries behind a reply -/

@[simp] theorem readBp_reply (r : HostResult) : readBp a (reply r s) = readBp a s := rfl

@[simp] theorem readWpWrite_reply (r : HostResult) : readWpWrite a (reply r s) = readWpWrite a s := rfl

@[simp] theorem readWpRead_reply (r : HostResult) : readWpRead a (reply r s) = readWpRead a s := rfl

/-- A write of one breakpoint entry reads back as a change of that entry alone. -/
theorem readBp_reply_writeBp (r : HostResult) (c : Addr) :
    readBp c (reply r (writeBp a b s)) = if c = a then b else readBp c s := by
  rw [readBp_reply, readBp_writeBp]

/-! ### Writes by type code -/

/-- The watchpoint codes of R192, with the tables that each selects (30_encoding R98). -/
theorem watchTables_eq : watchTables k =
    if k = 2 ∨ k = 3 ∨ k = 4 then some (decide (k = 2 ∨ k = 4), decide (k = 3 ∨ k = 4)) else none := by
  unfold watchTables
  by_cases h2 : k = 2
  · subst h2; rfl
  by_cases h3 : k = 3
  · subst h3; rfl
  by_cases h4 : k = 4
  · subst h4; rfl
  simp only [h2, h3, h4, or_self, if_false]

theorem setWatch_of_watchpoint {k : Byte} (h : k = 2 ∨ k = 3 ∨ k = 4) : setWatch a k b s =
    reply .ok (writeWp (decide (k = 2 ∨ k = 4)) (decide (k = 3 ∨ k = 4)) a b s) := by
  rw [setWatch, watchTables_eq, if_pos h]

theorem setWatch_of_unsupported {k : Byte} (h : ¬(k = 2 ∨ k = 3 ∨ k = 4)) :
    setWatch a k b s = reply .unsupported s := by
  rw [setWatch, watchTables_eq, if_neg h]

/-- A write by type code, in both tables and in the frame; SET_WP takes it with `true` and CLR_WP with `false`. -/
theorem setWatch_effect :
    (∀ c, readWpWrite c (setWatch a k b s) = if c = a ∧ (k = 2 ∨ k = 4) then b else readWpWrite c s) ∧
    (∀ c, readWpRead c (setWatch a k b s) = if c = a ∧ (k = 3 ∨ k = 4) then b else readWpRead c s) ∧
    (k = 2 ∨ k = 3 ∨ k = 4 → setWatch a k b s = { s with
      wpWrite := (setWatch a k b s).wpWrite, wpRead := (setWatch a k b s).wpRead, result := .ok }) ∧
    (¬(k = 2 ∨ k = 3 ∨ k = 4) → setWatch a k b s = { s with result := .unsupported }) := by
  by_cases h : k = 2 ∨ k = 3 ∨ k = 4
  · rw [setWatch_of_watchpoint a b s h]
    refine ⟨fun c => ?write, fun c => ?read, fun _ => rfl, fun hn => absurd h hn⟩
    case write => simp only [readWpWrite_reply, readWpWrite_writeWp, decide_eq_true_eq, and_comm]
    case read => simp only [readWpRead_reply, readWpRead_writeWp, decide_eq_true_eq, and_comm]
  · rw [setWatch_of_unsupported a b s h]
    refine ⟨fun c => (if_neg ?write).symm, fun c => (if_neg ?read).symm, fun hk => absurd hk h, fun _ => rfl⟩
    case write => exact fun ⟨_, hk⟩ => h (hk.imp_right .inr)
    case read => exact fun ⟨_, hk⟩ => h (.inr hk)

/-- Settles O26: SET_WP is `setWatch` with `true`. -/
theorem setWatchpointByType : Obligations.SetWatchpointByType :=
  ⟨fun a k => decodeHost_of_encode (i := .setWp a k) rfl, fun a k s => ⟨_, rfl, setWatch_effect a k true s⟩⟩

/-- Settles O27: CLR_WP is `setWatch` with `false`. -/
theorem clearWatchpointByType : Obligations.ClearWatchpointByType :=
  ⟨fun a k => decodeHost_of_encode (i := .clrWp a k) rfl, fun a k s => ⟨_, rfl, setWatch_effect a k false s⟩⟩

theorem isBreakpointCode_iff : isBreakpointCode k = true ↔ k = 0 ∨ k = 1 := by simp [isBreakpointCode]

theorem setByCode_of_breakpoint {k : Byte} (h : k = 0 ∨ k = 1) : setByCode k a b s = reply .ok (writeBp a b s) :=
  if_pos ((isBreakpointCode_iff k).mpr h)

theorem setByCode_of_not_breakpoint {k : Byte} (h : ¬(k = 0 ∨ k = 1)) : setByCode k a b s = setWatch a k b s :=
  if_neg (mt (isBreakpointCode_iff k).mp h)

/-- INSERT_Z takes it with `true` and REMOVE_Z with `false`: types 0 and 1 share the breakpoint entry (R209, R210). -/
theorem setByCode_effect :
    (k = 0 ∨ k = 1 → (∀ c, readBp c (setByCode k a b s) = if c = a then b else readBp c s) ∧
      setByCode k a b s = { s with bp := (setByCode k a b s).bp, result := .ok }) ∧
    (k = 2 ∨ k = 3 ∨ k = 4 → setWatch a k b s = setByCode k a b s ∧ (setByCode k a b s).result = .ok) ∧
    (4 < k.toNat → setByCode k a b s = { s with result := .unsupported }) := by
  refine ⟨fun hk => ?breakpoint, fun hk => ?watchpoint, fun hk => ?unsupported⟩
  case breakpoint =>
    rw [setByCode_of_breakpoint a b s hk]
    exact ⟨readBp_reply_writeBp a b s .ok, rfl⟩
  case watchpoint =>
    have hnot : ¬(k = 0 ∨ k = 1) := by rcases hk with rfl | rfl | rfl <;> decide
    rw [setByCode_of_not_breakpoint a b s hnot, setWatch_of_watchpoint a b s hk]
    exact ⟨rfl, rfl⟩
  case unsupported =>
    have hnot : ¬(k = 0 ∨ k = 1) := by rintro (rfl | rfl) <;> exact absurd hk (by decide)
    have hnone : ¬(k = 2 ∨ k = 3 ∨ k = 4) := by rintro (rfl | rfl | rfl) <;> exact absurd hk (by decide)
    rw [setByCode_of_not_breakpoint a b s hnot, setWatch_of_unsupported a b s hnone]
    rfl

/-- Settles O31: both operations are `setByCode`, and SET_WP and CLR_WP are `setWatch`. -/
theorem insertAndRemoveByTypeCode : Obligations.InsertAndRemoveByTypeCode := by
  refine ⟨fun k a => decodeHost_of_encode (i := .insertZ k a) rfl, fun k a s => ⟨_, rfl, ?insert⟩,
    fun k a => decodeHost_of_encode (i := .removeZ k a) rfl, fun k a s => ⟨_, rfl, ?remove⟩⟩
  case insert =>
    obtain ⟨hbp, hwp, hother⟩ := setByCode_effect a k true s
    exact ⟨hbp, fun hk => (hwp hk).imp_left (congrArg Host.Outcome.next), hother⟩
  case remove =>
    obtain ⟨hbp, hwp, hother⟩ := setByCode_effect a k false s
    exact ⟨hbp, fun hk => (hwp hk).imp_left (congrArg Host.Outcome.next), hother⟩

/-- Settles O25: both operations are one `writeBp`. -/
theorem setAndClearBreakpoint : Obligations.SetAndClearBreakpoint :=
  ⟨fun a => ⟨decodeHost_of_encode (i := .setBp a) rfl, decodeHost_of_encode (i := .clrBp a) rfl⟩,
    fun a s => ⟨_, rfl, readBp_reply_writeBp a true s .none, rfl⟩,
    fun a s => ⟨_, rfl, readBp_reply_writeBp a false s .none, rfl⟩⟩

/-! ### Reads and clears -/

/-- Settles O29: each of the ten operations is a reply. -/
theorem hostReadsReturnTheirField : Obligations.HostReadsReturnTheirField :=
  ⟨fun _ => rfl, fun _ => rfl, fun _ => rfl, fun _ => rfl, fun _ => rfl, fun _ => rfl, fun _ => rfl, fun _ => rfl,
    fun _ _ => rfl, fun _ _ => rfl⟩

/-- Settles O30: the state after a clear is written out, so a read of the flag finds `false`. -/
theorem clearHitClearsOnlyTheFlag : Obligations.ClearHitClearsOnlyTheFlag := by
  refine ⟨decodeHost_of_encode (i := .clrBpHit) rfl, decodeHost_of_encode (i := .clrWpHit) rfl, fun _ => rfl,
    fun _ => rfl, fun s t h => ?bp, fun s t h => ?wp⟩
  case bp => cases h; rfl
  case wp => cases h; rfl

end Machine

end Sys2Proof
end

section
/-! PROOFS. The two hit latches (42_debug_matcher R197 to R201, R211, R212): what a latch operation records, what each
matcher and each tick does to a latch, and that no operation but its clear resets one. -/

namespace Sys2Proof

namespace Machine

variable {s t u : State}

/-! ### What a latch operation records -/

/-- A latch takes the new hit under policy last, or where it was clear (R200). -/
theorem latchBp_of_takes (a : Addr) (h : s.cfg.hitLatchPolicy = .last ∨ s.bpHit = false) :
    latchBp a s = { s with bpHit := true, bpHitAddr := a } := by
  rw [latchBp, if_pos h]

/-- Under policy first a set latch stays as it is (R200). -/
theorem latchBp_of_keeps (a : Addr) (hp : s.cfg.hitLatchPolicy = .first) (hset : s.bpHit = true) :
    latchBp a s = s := by
  rw [latchBp, if_neg (by simp [hp, hset]), ← hset]

theorem latchWp_of_takes (a : Addr) (ty : Byte) (h : s.cfg.hitLatchPolicy = .last ∨ s.wpHit = false) :
    latchWp a ty s = { s with wpHit := true, wpHitAddr := a, wpHitType := ty } := by
  rw [latchWp, if_pos h, if_pos h]

theorem latchWp_of_keeps (a : Addr) (ty : Byte) (hp : s.cfg.hitLatchPolicy = .first) (hset : s.wpHit = true) :
    latchWp a ty s = s := by
  have hkeep : ¬(s.cfg.hitLatchPolicy = .last ∨ s.wpHit = false) := by simp [hp, hset]
  rw [latchWp, if_neg hkeep, if_neg hkeep, ← hset]

/-! ### The matchers -/

/-- Settles O21: where the fetch matcher is on it is `latchBp`, else it changes nothing. -/
theorem fetchMatcherLatchesBreakpoint : Obligations.FetchMatcherLatchesBreakpoint := by
  intro w a s
  refine ⟨bpCheck a s, rfl, ?_⟩
  by_cases hon : s.bpEnable = true ∧ readBp a s = true
  · rw [bpCheck, if_pos hon]
    refine ⟨fun _ => ⟨rfl, fun h => ?takes, fun ⟨hp, hset⟩ => ?keeps⟩, fun hoff => absurd hon hoff, rfl⟩
    case takes => rw [latchBp_of_takes a h]
    case keeps => rw [latchBp_of_keeps a hp hset]
  · rw [bpCheck, if_neg hon]
    exact ⟨fun h => absurd h hon, fun _ => rfl, rfl⟩

/-- A watch matcher with the condition `on` latches `ty` there and changes nothing elsewhere (R198, R199). -/
theorem watchMatcher_effect (a : Addr) (ty : Byte) (on : Prop) [Decidable on]
    (ht : t = if on then latchWp a ty s else s) :
    (on → t.wpHit = true ∧
      (s.cfg.hitLatchPolicy = .last ∨ s.wpHit = false → t.wpHitAddr = a ∧ t.wpHitType = ty) ∧
      (s.cfg.hitLatchPolicy = .first ∧ s.wpHit = true → t.wpHitAddr = s.wpHitAddr ∧ t.wpHitType = s.wpHitType)) ∧
    (¬on → t = s) ∧
    t = { s with wpHit := t.wpHit, wpHitAddr := t.wpHitAddr, wpHitType := t.wpHitType } := by
  subst ht
  by_cases hon : on
  · rw [if_pos hon]
    refine ⟨fun _ => ⟨rfl, fun h => ?takes, fun ⟨hp, hset⟩ => ?keeps⟩, fun hoff => absurd hon hoff, rfl⟩
    case takes => rw [latchWp_of_takes a ty h]; exact ⟨rfl, rfl⟩
    case keeps => rw [latchWp_of_keeps a ty hp hset]; exact ⟨rfl, rfl⟩
  · rw [if_neg hon]
    exact ⟨fun h => absurd h hon, fun _ => rfl, rfl⟩

/-- A watch matcher sets a clear flag only where it is on, and then records its address. -/
theorem watchMatcher_sets {a : Addr} {ty : Byte} {on : Prop} [Decidable on]
    (ht : t = if on then latchWp a ty s else s) (hclear : s.wpHit = false) (hset : t.wpHit = true) :
    on ∧ t.wpHitAddr = a := by
  obtain ⟨hlatched, hunchanged, _⟩ := watchMatcher_effect a ty on ht
  by_cases hon : on
  · obtain ⟨_, htakes, _⟩ := hlatched hon
    exact ⟨hon, (htakes (.inr hclear)).1⟩
  · rw [hunchanged hon, hclear] at hset; cases hset

/-- Settles O22: both watch matchers are a case of `watchMatcher_effect`, with the type that WType gives. -/
theorem watchMatchersLatchAddressAndType : Obligations.WatchMatchersLatchAddressAndType :=
  ⟨fun _ a s => ⟨wpWriteCheck a s, rfl, watchMatcher_effect a (wType a .write s) _ rfl⟩,
    fun a s => ⟨wpReadCheck a s, rfl, watchMatcher_effect a (wType a .read s) _ rfl⟩⟩

/-! ### The latches of a tick -/

/-- The breakpoint latch (10_state R31). -/
def bpLatch (s : State) : Bool × Addr := (s.bpHit, s.bpHitAddr)

/-- The watchpoint latch (10_state R34). -/
def wpLatch (s : State) : Bool × Addr × Byte := (s.wpHit, s.wpHitAddr, s.wpHitType)

theorem bpLatch_eq_iff : bpLatch t = bpLatch s ↔ t.bpHit = s.bpHit ∧ t.bpHitAddr = s.bpHitAddr := by simp [bpLatch]

theorem wpLatch_eq_iff : wpLatch t = wpLatch s ↔
    t.wpHit = s.wpHit ∧ t.wpHitAddr = s.wpHitAddr ∧ t.wpHitType = s.wpHitType := by simp [wpLatch]

section
variable (a : Addr) (s : State)

theorem bpLatch_bpCheck : bpLatch (bpCheck a s) =
    if s.bpEnable = true ∧ readBp a s = true then bpLatch (latchBp a s) else bpLatch s := apply_ite bpLatch _ _ _

theorem bpLatch_wpWriteCheck : bpLatch (wpWriteCheck a s) = bpLatch s := by
  unfold wpWriteCheck; split <;> rfl

theorem bpLatch_wpReadCheck : bpLatch (wpReadCheck a s) = bpLatch s := by
  unfold wpReadCheck; split <;> rfl

theorem wpLatch_bpCheck : wpLatch (bpCheck a s) = wpLatch s := by
  unfold bpCheck; split <;> rfl

theorem wpLatch_wpWriteCheck : wpLatch (wpWriteCheck a s) =
    if s.wpEnable = true ∧ readWpWrite a s = true then wpLatch (latchWp a (wType a .write s) s) else wpLatch s :=
  apply_ite wpLatch _ _ _

theorem wpLatch_wpReadCheck : wpLatch (wpReadCheck a s) =
    if s.wpEnable = true ∧ readWpRead a s = true then wpLatch (latchWp a (wType a .read s) s) else wpLatch s :=
  apply_ite wpLatch _ _ _

/-- In a SYNC write the fetch matcher runs first and leaves the write matcher what it reads (40_bus_fabric R120). -/
theorem wpLatch_wpWriteCheck_bpCheck : wpLatch (wpWriteCheck a (bpCheck a s)) = wpLatch (wpWriteCheck a s) := by
  unfold bpCheck
  split
  · rw [wpLatch_wpWriteCheck, wpLatch_wpWriteCheck]; rfl
  · rfl

end

/-- The fetch matcher alone moves the breakpoint latch, on a SYNC cycle (R197). -/
theorem bpLatch_runMatchers (s : State) :
    bpLatch (runMatchers s) = if s.pins.sync then bpLatch (bpCheck s.pins.addr s) else bpLatch s := by
  rw [runMatchers_eq]
  cases s.pins.sync <;> cases s.pins.rw
  · exact bpLatch_wpWriteCheck _ s
  · exact bpLatch_wpReadCheck _ s
  · exact bpLatch_wpWriteCheck _ _
  · rfl

/-- The two watch matchers alone move the watchpoint latch, on a write and on a read that is no fetch (R198, R199). -/
theorem wpLatch_runMatchers (s : State) :
    wpLatch (runMatchers s) =
      if s.pins.rw then if s.pins.sync then wpLatch s else wpLatch (wpReadCheck s.pins.addr s)
      else wpLatch (wpWriteCheck s.pins.addr s) := by
  rw [runMatchers_eq]
  cases s.pins.sync <;> cases s.pins.rw
  · rfl
  · rfl
  · exact wpLatch_wpWriteCheck_bpCheck _ s
  · exact wpLatch_bpCheck _ s

section
variable (input : List Byte) (s : State)

theorem tick_sync : (tick input s).pins.sync = (cpuTick s.cpu s.pins).2.sync := by
  rw [tick_pins, tickToAccess_frame]

theorem bpLatch_tick_eq_runMatchers : bpLatch (tick input s) = bpLatch (runMatchers (tickStart s)) := by
  unfold tick; rw [runBusCycle_frame]; rfl

theorem wpLatch_tick_eq_runMatchers : wpLatch (tick input s) = wpLatch (runMatchers (tickStart s)) := by
  unfold tick; rw [runBusCycle_frame]; rfl

/-- The breakpoint latch after a tick, by the cycle of the tick and the state before it: steps 1 to 3 change nothing that
the fetch matcher reads but the pins. -/
theorem bpLatch_tick : bpLatch (tick input s) =
    if (tick input s).pins.sync then bpLatch (bpCheck (tick input s).pins.addr s) else bpLatch s := by
  rw [bpLatch_tick_eq_runMatchers, bpLatch_runMatchers, tick_sync, tick_addr, bpLatch_bpCheck, bpLatch_bpCheck]
  rfl

/-- The watchpoint latch after a tick, by the cycle of the tick and the state before it. -/
theorem wpLatch_tick : wpLatch (tick input s) =
    if (tick input s).pins.rw then
      if (tick input s).pins.sync then wpLatch s else wpLatch (wpReadCheck (tick input s).pins.addr s)
    else wpLatch (wpWriteCheck (tick input s).pins.addr s) := by
  rw [wpLatch_tick_eq_runMatchers, wpLatch_runMatchers, tick_sync, tick_rw, tick_addr, wpLatch_wpReadCheck,
    wpLatch_wpReadCheck, wpLatch_wpWriteCheck, wpLatch_wpWriteCheck]
  rfl

end

/-- Settles O23: without SYNC the fetch matcher is off, and with SYNC on a read both watch matchers are. -/
theorem oneCycleLatchesAtMostOneHit : Obligations.OneCycleLatchesAtMostOneHit := by
  intro input s hcycle
  cases hy : (tick input s).pins.sync with
  | false => exact .inl (bpLatch_eq_iff.mp (by rw [bpLatch_tick, hy]; rfl))
  | true =>
    have hr : (tick input s).pins.rw = true := by simpa [hy] using hcycle
    exact .inr (wpLatch_eq_iff.mp (by rw [wpLatch_tick, hr, hy]; rfl))

/-! ### Where a hit comes from -/

/-- The fetch matcher sets a clear flag only at an enabled breakpoint, and then records its address (R197). -/
theorem bpCheck_sets {a : Addr} (hclear : s.bpHit = false) (hset : (bpCheck a s).bpHit = true) :
    s.bpEnable = true ∧ readBp a s = true ∧ (bpCheck a s).bpHitAddr = a := by
  unfold bpCheck at hset ⊢
  split at hset
  · next hon =>
    obtain ⟨hen, hentry⟩ := hon
    rw [if_pos ⟨hen, hentry⟩, latchBp_of_takes a (.inr hclear)]
    exact ⟨hen, hentry, rfl⟩
  · rw [hclear] at hset; cases hset

/-- Settles O24: the latch after the tick is that of the matcher of its cycle, which set the flag. -/
theorem breakpointHitsOnlyOnFetch : Obligations.BreakpointHitsOnlyOnFetch := by
  intro input s
  refine ⟨fun hclear hset => ?bp, fun hclear hset => ?wp⟩
  case bp =>
    have hlatch := bpLatch_tick input s
    split at hlatch
    · next hy =>
      obtain ⟨hhit, haddr⟩ := bpLatch_eq_iff.mp hlatch
      obtain ⟨hen, hentry, hrec⟩ := bpCheck_sets hclear (hhit ▸ hset)
      exact ⟨hy, hen, hentry, haddr.trans hrec⟩
    · obtain ⟨hhit, _⟩ := bpLatch_eq_iff.mp hlatch
      rw [hhit, hclear] at hset; cases hset
  case wp =>
    have hlatch := wpLatch_tick input s
    split at hlatch
    · next hr =>
      split at hlatch
      · obtain ⟨hhit, _⟩ := wpLatch_eq_iff.mp hlatch
        rw [hhit, hclear] at hset; cases hset
      · next hy =>
        obtain ⟨hhit, haddr, _⟩ := wpLatch_eq_iff.mp hlatch
        obtain ⟨⟨hen, hentry⟩, hrec⟩ := watchMatcher_sets (t := wpReadCheck _ s) rfl hclear (hhit ▸ hset)
        exact ⟨hen, haddr.trans hrec, .inr ⟨hr, Bool.eq_false_of_not_eq_true hy, hentry⟩⟩
    · next hw =>
      obtain ⟨hhit, haddr, _⟩ := wpLatch_eq_iff.mp hlatch
      obtain ⟨⟨hen, hentry⟩, hrec⟩ := watchMatcher_sets (t := wpWriteCheck _ s) rfl hclear (hhit ▸ hset)
      exact ⟨hen, haddr.trans hrec, .inl ⟨Bool.eq_false_of_not_eq_true hw, hentry⟩⟩

/-- Settles O28: the gate writes by their equations; a closed gate turns its matchers off. -/
theorem enablesWriteOnlyTheirGate : Obligations.EnablesWriteOnlyTheirGate := by
  refine ⟨fun b => ⟨decodeHost_of_encode (i := .enableBp b) rfl, decodeHost_of_encode (i := .enableWp b) rfl⟩,
    fun _ _ => rfl, fun _ _ => rfl, fun input s hoff => bpLatch_eq_iff.mp ?bpOff,
    fun input s hoff => wpLatch_eq_iff.mp ?wpOff, fun input s hen hentry hy => ?bpOn⟩
  case bpOff => rw [bpLatch_tick, bpCheck_of_off (.inl hoff), ite_self]
  case wpOff => rw [wpLatch_tick, wpReadCheck_of_off (.inl hoff), wpWriteCheck_of_off (.inl hoff), ite_self, ite_self]
  case bpOn =>
    have hlatch := bpLatch_tick input s
    rw [hy, if_pos rfl, bpCheck, if_pos ⟨hen, hentry⟩] at hlatch
    exact (bpLatch_eq_iff.mp hlatch).1

/-! ### A set latch stays -/

/-- From `s` to `t` no set hit flag is reset, and under policy first no set latch moves (R212). -/
structure LatchesKept (s t : State) : Prop where
  cfg : t.cfg = s.cfg
  bpHit : s.bpHit = true → t.bpHit = true
  wpHit : s.wpHit = true → t.wpHit = true
  bpLatch : s.cfg.hitLatchPolicy = .first → s.bpHit = true → Machine.bpLatch t = Machine.bpLatch s
  wpLatch : s.cfg.hitLatchPolicy = .first → s.wpHit = true → Machine.wpLatch t = Machine.wpLatch s

theorem LatchesKept.trans (h : LatchesKept s t) (k : LatchesKept t u) : LatchesKept s u where
  cfg := k.cfg.trans h.cfg
  bpHit := k.bpHit ∘ h.bpHit
  wpHit := k.wpHit ∘ h.wpHit
  bpLatch hp hset := (k.bpLatch (h.cfg ▸ hp) (h.bpHit hset)).trans (h.bpLatch hp hset)
  wpLatch hp hset := (k.wpLatch (h.cfg ▸ hp) (h.wpHit hset)).trans (h.wpLatch hp hset)

theorem latchesKept_of_eq (hcfg : t.cfg = s.cfg) (hbp : bpLatch t = bpLatch s) (hwp : wpLatch t = wpLatch s) :
    LatchesKept s t where
  cfg := hcfg
  bpHit hset := (bpLatch_eq_iff.mp hbp).1.trans hset
  wpHit hset := (wpLatch_eq_iff.mp hwp).1.trans hset
  bpLatch _ _ := hbp
  wpLatch _ _ := hwp

theorem latchesKept_refl (s : State) : LatchesKept s s := latchesKept_of_eq rfl rfl rfl

theorem latchesKept_reply (r : HostResult) (s : State) : LatchesKept s (reply r s) := latchesKept_of_eq rfl rfl rfl

theorem latchesKept_latchBp (a : Addr) (s : State) : LatchesKept s (latchBp a s) where
  cfg := rfl
  bpHit _ := rfl
  wpHit := id
  bpLatch hp hset := by rw [latchBp_of_keeps a hp hset]
  wpLatch _ _ := rfl

theorem latchesKept_latchWp (a : Addr) (ty : Byte) (s : State) : LatchesKept s (latchWp a ty s) where
  cfg := rfl
  bpHit := id
  wpHit _ := rfl
  bpLatch _ _ := rfl
  wpLatch hp hset := by rw [latchWp_of_keeps a ty hp hset]

/-- A debug-match class is a latch operation or nothing (R197 to R199). -/
theorem latchesKept_debug {i : Instr} (h : i.port = .debug) (s : State) : LatchesKept s (classEffect i s) := by
  cases i with
  | bpMatch w a =>
    simp only [classEffect, bpCheck]
    split
    · exact latchesKept_latchBp a s
    · exact latchesKept_refl s
  | wpwMatch y a =>
    simp only [classEffect, wpWriteCheck]
    split
    · exact latchesKept_latchWp a _ s
    · exact latchesKept_refl s
  | wprMatch a =>
    simp only [classEffect, wpReadCheck]
    split
    · exact latchesKept_latchWp a _ s
    · exact latchesKept_refl s
  | _ => exact absurd h (by simp [Instr.port])

theorem latchesKept_tick (input : List Byte) (s : State) : LatchesKept s (tick input s) := by
  have hstart : LatchesKept s (tickStart s) := latchesKept_of_eq rfl rfl rfl
  have hmatch : LatchesKept s (runMatchers (tickStart s)) :=
    runMatchers_keeps (fun a _ h => h.trans (latchesKept_latchBp a _))
      (fun a _ _ h => h.trans (latchesKept_latchWp a _ _)) hstart
  have hcfg : (tick input s).cfg = (runMatchers (tickStart s)).cfg := (tick_cfg input s).trans hmatch.cfg.symm
  exact hmatch.trans
    (latchesKept_of_eq hcfg (bpLatch_tick_eq_runMatchers input s) (wpLatch_tick_eq_runMatchers input s))

theorem latchesKept_runTicks (n : Nat) (s : State) : LatchesKept s (runTicks n s) := by
  refine runTicks_induction (P := LatchesKept s) (fun u h => ?_) n (latchesKept_refl s)
  have drawn : LatchesKept u { u with inputs := u.inputs.tail } := latchesKept_of_eq rfl rfl rfl
  exact h.trans (drawn.trans (latchesKept_tick _ _))

theorem latchesKept_setWatch (a : Addr) (kind : Byte) (b : Bool) (s : State) : LatchesKept s (setWatch a kind b s) := by
  unfold setWatch; split <;> exact latchesKept_of_eq rfl rfl rfl

theorem latchesKept_setByCode (kind : Byte) (a : Addr) (b : Bool) (s : State) :
    LatchesKept s (setByCode kind a b s) := by
  unfold setByCode
  split
  · exact latchesKept_of_eq rfl rfl rfl
  · exact latchesKept_setWatch a kind b s

/-- Only the two clears reset a hit flag (R204, R208, R212). -/
theorem latchesKept_exec {i : Instr} (hbp : i ≠ .clrBpHit) (hwp : i ≠ .clrWpHit) (h : exec i s = .next t) :
    LatchesKept s t := by
  cases i with
  | bpMatch | wpwMatch | wprMatch =>
    rw [exec_class (by simp [Instr.port])] at h
    cases h
    exact latchesKept_debug rfl s
  | tick input => cases h; exact (latchesKept_tick input s).trans (latchesKept_reply _ _)
  | reset input =>
    cases h
    have prepared : LatchesKept s (resetPrepare s) := latchesKept_of_eq rfl rfl rfl
    have released (v : State) : LatchesKept v (reply .none (driveRes false v)) := latchesKept_of_eq rfl rfl rfl
    exact prepared.trans ((latchesKept_tick input _).trans (released _))
  | step =>
    obtain ⟨n, r, rfl⟩ := exec_step_runTicks h
    exact (latchesKept_runTicks n s).trans (latchesKept_reply r _)
  | run budget =>
    obtain ⟨n, r, rfl⟩ := exec_run_runTicks h
    exact (latchesKept_runTicks n s).trans (latchesKept_reply r _)
  | clrBpHit => exact absurd rfl hbp
  | clrWpHit => exact absurd rfl hwp
  | setWp a kind | clrWp a kind => cases h; exact latchesKept_setWatch a kind _ s
  | insertZ kind a | removeZ kind a => cases h; exact latchesKept_setByCode kind a _ s
  | loadRom image =>
    simp only [exec, execLoadRom] at h
    split at h <;> cases h <;> exact latchesKept_of_eq rfl rfl rfl
  | memWrite a d => cases h; rw [backdoorWrite_eq]; exact latchesKept_of_eq rfl rfl rfl
  | memReadBlock a len =>
    simp only [exec, execMemReadBlock] at h
    split at h <;> cases h <;> exact latchesKept_reply _ s
  | memWriteBlock a data =>
    simp only [exec, execMemWriteBlock] at h
    split at h <;> cases h
    · exact latchesKept_reply _ s
    · rw [backdoorWriteList_eq]; exact latchesKept_of_eq rfl rfl rfl
  | _ => cases h; exact latchesKept_of_eq rfl rfl rfl

/-- Settles O33: a clear leaves the other latch as it is, and every other operation is in `latchesKept_exec`. -/
theorem hitFlagsStayUntilCleared : Obligations.HitFlagsStayUntilCleared := by
  intro i s t h
  by_cases hbp : i = .clrBpHit
  · subst hbp
    cases h
    exact ⟨fun hn => absurd rfl hn, fun _ => id, fun _ hn => absurd rfl hn, fun _ _ _ => ⟨rfl, rfl⟩⟩
  by_cases hwp : i = .clrWpHit
  · subst hwp
    cases h
    exact ⟨fun _ => id, fun hn => absurd rfl hn, fun _ _ _ => rfl, fun _ hn => absurd rfl hn⟩
  have hkept := latchesKept_exec hbp hwp h
  exact ⟨fun _ => hkept.bpHit, fun _ => hkept.wpHit,
    fun hp _ hset => (bpLatch_eq_iff.mp (hkept.bpLatch hp hset)).2,
    fun hp _ hset => (wpLatch_eq_iff.mp (hkept.wpLatch hp hset)).2⟩

end Machine

end Sys2Proof
end

section
/-! PROOFS. A debugger's detach (42_debug_matcher R213), as a run of the machine over its queued requests. -/

namespace Sys2Proof

namespace Machine

variable {s t : State}

/-- The host's run takes one step and goes on from there. -/
theorem run_succ_of_step (n : Nat) (h : step s = .next t) :
    Host.Core.run core (n + 1) s = Host.Core.run core n t := by
  have hstep : core.step s = .next t := h
  simp only [Host.Core.run, hstep]

/-- A queued host operation runs in the next step of the host's run. -/
theorem run_succ_of_encode {i : Instr} {q : HostRequest} {rest : List HostRequest} (n : Nat) (hq : s.hostq = q :: rest)
    (hi : encode i = .host q) (hexec : exec i { s with hostq := rest } = .next t) :
    Host.Core.run core (n + 1) s = Host.Core.run core n t :=
  run_succ_of_step n ((step_of_decodeHost hq (decodeHost_of_encode hi)).trans hexec)

/-- Settles O32: by induction on the installed addresses, one CLR_BP each; with none left, ENABLE_BP false. -/
theorem detachClearsBreakpointsAndGate : Obligations.DetachClearsBreakpointsAndGate := by
  intro installed rest
  induction installed with
  | nil =>
    intro s hq
    exact ⟨_, run_succ_of_encode (i := .enableBp false) 0 hq rfl rfl, fun _ => (if_neg List.not_mem_nil).symm, rfl⟩
  | cons a installed ih =>
    intro s hq
    obtain ⟨t, hrun, hread, hframe⟩ :=
      ih (reply .none (writeBp a false { s with hostq := (detachOps installed).filterMap requestOf ++ rest })) rfl
    refine ⟨t, (run_succ_of_encode (i := .clrBp a) _ hq rfl rfl).trans hrun, fun b => ?entries, hframe⟩
    case entries =>
      rw [hread, readBp_reply_writeBp]
      by_cases hb : b = a
      · simp [hb]
      · simp only [List.mem_cons, hb, false_or, if_false]; rfl

end Machine

end Sys2Proof
end

section
/-! PROOFS. The sequencer (43_step_reset R230 to R243): TICK, the two loops of ticks and the reports after them,
LOAD_ROM, RESET, and the anchor. -/

namespace Sys2Proof

namespace Machine

/-! ### TICK -/

theorem tick_tickCount (input : List Byte) (s : State) : (tick input s).tickCount = s.tickCount + 1 := by
  rw [tick_frame]

/-- Settles O34: TICK replies with the pins of a tick, which is the algorithm by `tickIsTheTenStepAlgorithm`. -/
theorem tickOperationReturnsThePins : Obligations.TickOperationReturnsThePins := by
  refine ⟨fun input => decodeHost_of_encode (i := .tick input) rfl, fun input s =>
    ⟨reply (.pins (tick input s).pins) (tick input s), rfl, rfl, tick_tickCount input s, ?algorithm⟩,
    fun _ => tickIsTheTenStepAlgorithm _ _⟩
  case algorithm => rw [tickIsTheTenStepAlgorithm]; rfl

/-! ### The loops of STEP and RUN -/

section
variable {stop : State → Bool} {bound n : Nat} {s : State}

/-- `stop` holds after `n` ticks; a loop tests it after a tick only, so not after none. -/
def StoppedAfter (stop : State → Bool) (n : Nat) (s : State) : Prop := 1 ≤ n ∧ stop (runTicks n s) = true

theorem not_stoppedAfter_zero (stop : State → Bool) (s : State) : ¬ StoppedAfter stop 0 s :=
  fun ⟨hpos, _⟩ => Nat.not_succ_le_zero 0 hpos

/-- Where `stop` does not hold after the first tick, the ticks behind it decide. -/
theorem stoppedAfter_succ_iff (h : stop (tickDrawn s) = false) :
    StoppedAfter stop (n + 1) s ↔ StoppedAfter stop n (tickDrawn s) := by
  cases n with
  | zero =>
    have hnot : ¬ StoppedAfter stop 1 s := fun ⟨_, hstop⟩ => Bool.false_ne_true (h.symm.trans hstop)
    exact iff_of_false hnot (not_stoppedAfter_zero stop _)
  | succ n => exact and_congr_left fun _ => iff_of_true (by omega) (by omega)

/-- A loop from `s` that tests `stop` after each tick ends after `n` ticks: `stop` held after none before, and where it
does not hold after the last, the loop has run its `bound` of ticks (R231, R233). -/
structure EndsAfter (stop : State → Bool) (bound n : Nat) (s : State) : Prop where
  le_bound : n ≤ bound
  before : ∀ m, 1 ≤ m → m < n → stop (runTicks m s) = false
  eq_bound : ¬ StoppedAfter stop n s → n = bound

theorem endsAfter_zero (stop : State → Bool) (s : State) : EndsAfter stop 0 0 s where
  le_bound := le_rfl
  before _ _ h := absurd h (Nat.not_lt_zero _)
  eq_bound _ := rfl

theorem endsAfter_one (bound : Nat) (h : stop (tickDrawn s) = true) : EndsAfter stop (bound + 1) 1 s where
  le_bound := by omega
  before _ _ _ := by omega
  eq_bound hn := absurd ⟨le_rfl, h⟩ hn

theorem EndsAfter.succ (h : stop (tickDrawn s) = false) (hrest : EndsAfter stop bound n (tickDrawn s)) :
    EndsAfter stop (bound + 1) (n + 1) s where
  le_bound := Nat.succ_le_succ hrest.le_bound
  before m hpos hm := by
    obtain _ | _ | m := m
    · omega
    · exact h
    · exact hrest.before (m + 1) (by omega) (by omega)
  eq_bound hn := congrArg (· + 1) (hrest.eq_bound (mt (stoppedAfter_succ_iff h).mpr hn))

/-- A loop that may run a tick runs one. -/
theorem EndsAfter.pos (h : EndsAfter stop (bound + 1) n s) : 1 ≤ n := by
  by_contra hn
  have hbound : n = bound + 1 := h.eq_bound fun ⟨hpos, _⟩ => hn hpos
  omega

end

/-! ### STEP -/

/-- The test of R231: the last cycle was an opcode fetch. -/
def atFetch (s : State) : Bool := s.pins.sync

/-- STEP's loop with at most `k + 1` ticks: its signal says whether the last cycle was a fetch (R231, R232). -/
theorem stepLoop_endsAfter (k : Nat) (s : State) : ∃ n, EndsAfter atFetch (k + 1) n s ∧
    stepLoop k s = (runTicks n s, if atFetch (runTicks n s) then .sigtrap else .sigill) := by
  induction k generalizing s with
  | zero =>
    refine ⟨1, ?_, rfl⟩
    cases h : atFetch (tickDrawn s) with
    | true => exact endsAfter_one 0 h
    | false => exact (endsAfter_zero _ _).succ h
  | succ k ih =>
    cases h : atFetch (tickDrawn s) with
    | true =>
      have hloop : stepLoop (k + 1) s = (tickDrawn s, .sigtrap) := if_pos h
      exact ⟨1, endsAfter_one _ h, hloop.trans (by rw [runTicks_succ, runTicks_zero, h]; rfl)⟩
    | false =>
      have hloop : stepLoop (k + 1) s = stepLoop k (tickDrawn s) := if_neg (Bool.eq_false_iff.mp h)
      obtain ⟨n, hends, hrest⟩ := ih (tickDrawn s)
      exact ⟨n + 1, hends.succ h, hloop.trans hrest⟩

theorem exec_step_eq (s : State) : exec .step s = .next (reply (.signal (stepRun s).2) (stepRun s).1) := rfl

/-- Settles O35: the loop's bound is the guard, or 1 for a guard of 0. -/
theorem stepRunsToSyncOrGuard : Obligations.StepRunsToSyncOrGuard := by
  intro s
  obtain ⟨n, hends, hloop⟩ := stepLoop_endsAfter (s.cfg.stepGuard - 1) s
  have hguard : s.cfg.stepGuard - 1 + 1 = max 1 s.cfg.stepGuard := by omega
  have hbound : EndsAfter atFetch (max 1 s.cfg.stepGuard) n s := hguard ▸ hends
  have hexec : exec .step s =
      .next (reply (.signal (if atFetch (runTicks n s) then .sigtrap else .sigill)) (runTicks n s)) := by
    rw [exec_step_eq, stepRun, hloop]
  refine ⟨n, _, hexec, hends.pos, hbound.le_bound, hbound.before, ?_, rfl, rfl⟩
  cases h : atFetch (runTicks n s) with
  | true => exact .inl ⟨h, rfl⟩
  | false =>
    have hnot : ¬ StoppedAfter atFetch n s := fun ⟨_, hstop⟩ => Bool.false_ne_true (h.symm.trans hstop)
    exact .inr ⟨h, hbound.eq_bound hnot, rfl⟩

/-! ### RUN -/

/-- The test of R233: a hit latch is set. -/
def hitLatched (s : State) : Bool := s.bpHit || s.wpHit

theorem hitLatched_eq_true_iff (s : State) : hitLatched s = true ↔ s.bpHit = true ∨ s.wpHit = true := by
  simp [hitLatched]

theorem hitLatched_eq_false_iff (s : State) : hitLatched s = false ↔ s.bpHit = false ∧ s.wpHit = false := by
  simp [hitLatched]

/-- RUN's loop after `k` ticks: it counts its own `n` on top, and says whether it stopped at a latch (R233). -/
theorem runLoop_endsAfter (fuel k : Nat) (s : State) : ∃ n stopped, EndsAfter hitLatched fuel n s ∧
    (stopped = true ↔ StoppedAfter hitLatched n s) ∧
    runLoop fuel k s = (runTicks n s,
      { stopped := stopped, ticks := k + n, bp := (runTicks n s).bpHit, wp := (runTicks n s).wpHit }) := by
  induction fuel generalizing k s with
  | zero => exact ⟨0, false, endsAfter_zero _ s, iff_of_false nofun (not_stoppedAfter_zero _ s), rfl⟩
  | succ fuel ih =>
    cases h : hitLatched (tickDrawn s) with
    | true => exact ⟨1, true, endsAfter_one fuel h, iff_of_true rfl ⟨le_rfl, h⟩, if_pos h⟩
    | false =>
      have hloop : runLoop (fuel + 1) k s = runLoop fuel (k + 1) (tickDrawn s) := if_neg (Bool.eq_false_iff.mp h)
      obtain ⟨n, stopped, hends, hstopped, hrest⟩ := ih (k + 1) (tickDrawn s)
      rw [show k + 1 + n = k + (n + 1) by omega] at hrest
      exact ⟨n + 1, stopped, hends.succ h, hstopped.trans (stoppedAfter_succ_iff h).symm, hloop.trans hrest⟩

theorem exec_run_eq (budget : Nat) (s : State) :
    exec (.run budget) s = .next (reply (.run (runLoop budget 0 s).2) (runLoop budget 0 s).1) := rfl

/-- The report order of R285: a function of the two latches, whatever operation left them. -/
theorem stopReports_cases (s : State) :
    (s.bpHit = true → s.wpHit = true →
      stopReports s = [.breakpoint 5 s.bpHitAddr, .watchpoint s.wpHitAddr s.wpHitType]) ∧
    (s.bpHit = true → s.wpHit = false → stopReports s = [.breakpoint 5 s.bpHitAddr]) ∧
    (s.bpHit = false → s.wpHit = true → stopReports s = [.watchpoint s.wpHitAddr s.wpHitType]) ∧
    (s.bpHit = false → s.wpHit = false → stopReports s = []) := by
  refine ⟨fun hbp hwp => ?_, fun hbp hwp => ?_, fun hbp hwp => ?_, fun hbp hwp => ?_⟩
  all_goals rw [stopReports, hbp, hwp]; rfl

/-- Settles O36: the loop's bound is the budget. -/
theorem runStopsOnHitOrBudget : Obligations.RunStopsOnHitOrBudget := by
  refine ⟨fun budget s => ?loop, fun _ _ t _ => stopReports_cases t⟩
  case loop =>
    obtain ⟨n, stopped, hends, hstopped, hloop⟩ := runLoop_endsAfter budget 0 s
    refine ⟨n, stopped, hends.le_bound, ?exec,
      fun m hpos hm => (hitLatched_eq_false_iff _).mp (hends.before m hpos hm), ?stopped, fun hgo => ?budget⟩
    case exec =>
      rw [exec_run_eq, hloop, Nat.zero_add]
      rfl
    case stopped => rw [hstopped, StoppedAfter, hitLatched_eq_true_iff]
    case budget => exact hends.eq_bound (mt hstopped.mpr (Bool.eq_false_iff.mp hgo))

/-! ### LOAD_ROM -/

section
variable {image : List Byte}

theorem loadRomMem_of_fits (h : image.length ≤ romMax) (m : Memory) :
    loadRomMem image m = some (m.writeList romBase.toNat image) := if_neg (Nat.not_lt.mpr h)

theorem loadRomMem_of_tooLong (h : romMax < image.length) (m : Memory) : loadRomMem image m = none := if_pos h

theorem exec_loadRom_of_fits (h : image.length ≤ romMax) (s : State) :
    exec (.loadRom image) s = .next (reply .ok { s with mem := s.mem.writeList romBase.toNat image }) := by
  simp only [exec, execLoadRom, loadRomMem_of_fits h]

theorem exec_loadRom_of_tooLong (h : romMax < image.length) (s : State) :
    exec (.loadRom image) s = .next (reply .refused s) := by
  simp only [exec, execLoadRom, loadRomMem_of_tooLong h]

end

/-- Power-on loads the ROM image over the empty array (10_state R44). -/
theorem powerOn_mem_of_fits {cfg : Config} (h : cfg.romImage.length ≤ romMax) (init : CpuState × Pins) :
    (powerOn cfg init).mem = Memory.writeList romBase.toNat cfg.romImage [] := by
  show (loadRomMem cfg.romImage []).getD [] = _
  rw [loadRomMem_of_fits h]
  rfl

/-- Settles O39: LOAD_ROM on each side of the limit, its bytes by `Memory.read_writeList`; power-on makes the
same store. -/
theorem loadRomStoresTheImage : Obligations.LoadRomStoresTheImage := by
  refine ⟨fun image => decodeHost_of_encode (i := .loadRom image) rfl, fun _ s hlong => exec_loadRom_of_tooLong hlong s,
    fun image s hfits => ⟨_, exec_loadRom_of_fits hfits s, fun b => Memory.read_writeList image _ s.mem b.toNat, rfl⟩,
    fun cfg init t hfits h => ?powerOn⟩
  case powerOn =>
    rw [exec_loadRom_of_fits hfits] at h
    cases h
    exact powerOn_mem_of_fits hfits init

/-! ### RESET -/

theorem readMem_ttyReset (b : Addr) (s : State) :
    readMem b (ttyReset s) = if b = 0x00FF then readMem b s &&& 0xFD else readMem b s :=
  readMem_writeCell (· &&& 0xFD) { s with ttyq := [] } b

/-- Every byte before the reset tick: the image where it is reloaded, else what TTY_RESET leaves (R234). -/
theorem readMem_resetPrepare_eq {s : State} (h : s.cfg.romImage.length ≤ romMax) (b : Addr) :
    readMem b (resetPrepare s) =
      if s.cfg.reloadRomOnReset = true ∧ 0xD000 ≤ b.toNat ∧ b.toNat < 0xD000 + s.cfg.romImage.length
      then s.cfg.romImage.getD (b.toNat - 0xD000) 0
      else if b = 0x00FF then readMem b s &&& 0xFD else readMem b s := by
  rw [← readMem_ttyReset, ite_and]
  show Memory.read (if s.cfg.reloadRomOnReset then reloadRom s.cfg (ttyReset s).mem else (ttyReset s).mem) b.toNat = _
  split
  · exact read_reloadRom h _ _
  · rfl

/-- Settles O37: the bytes by `readMem_resetPrepare_eq`, the tick by `tickIsTheTenStepAlgorithm`, then RES low again. -/
theorem resetRunsItsSequence : Obligations.ResetRunsItsSequence := by
  refine ⟨fun input => decodeHost_of_encode (i := .reset input) rfl, fun input s himage =>
    ⟨resetPrepare s, _, resetPrepare_eq s, readMem_resetPrepare_eq himage, exec_reset_eq input s, ?tick⟩⟩
  case tick => rw [tickIsTheTenStepAlgorithm]; rfl

/-! ### The anchor -/

section
variable (input : List Byte) (s : State)

/-- Step 3 of R120 alone moves the anchor. -/
theorem tick_anchor_eq_tickStart : (tick input s).anchor = (tickStart s).anchor ∧
    (tick input s).anchorArmed = (tickStart s).anchorArmed := by
  unfold tick tickToAccess
  rw [runBusCycle_frame, runMatchers_frame]
  exact ⟨rfl, rfl⟩

/-- The anchor after a tick, by the cycle of the tick and the state before it (R240). -/
theorem tick_anchor : (tick input s).anchor =
    if ((tick input s).pins.sync = true ∨ s.anchorArmed = true) ∧ (tick input s).pins.addr = cpuPC s.cpu
    then (tick input s).pins.addr else s.anchor := by
  rw [tick_sync, tick_addr]
  exact (tick_anchor_eq_tickStart input s).1

theorem tick_anchorArmed : (tick input s).anchorArmed =
    (((tick input s).pins.sync || s.anchorArmed) && (tick input s).pins.addr != cpuPC s.cpu) := by
  rw [tick_sync, tick_addr]
  exact (tick_anchor_eq_tickStart input s).2

end

/-- Settles O40: the two fields by their equations; an armed anchor that is not taken missed the program counter. -/
theorem anchorOperationsAndUpdate : Obligations.AnchorOperationsAndUpdate := by
  refine ⟨decodeHost_of_encode (i := .anchorRealign) rfl, fun _ => rfl,
    fun input s ⟨harmed, hpc⟩ => ⟨?taken, ?disarmed⟩, fun input s hkeeps => ⟨?kept, ?armed⟩⟩
  case taken => rw [tick_anchor, if_pos ⟨harmed, hpc⟩]
  case disarmed => rw [tick_anchorArmed, hpc, bne_self_eq_false, Bool.and_false]
  case kept => rw [tick_anchor, if_neg hkeeps]
  case armed =>
    rw [tick_anchorArmed, Bool.and_eq_true, Bool.or_eq_true, bne_iff_ne]
    exact and_iff_left_of_imp fun harmed hpc => hkeeps ⟨harmed, hpc⟩

end Machine

end Sys2Proof
end

section
/-! PROOFS. The host's backdoor access (44_host_access R261 to R265): what each operation stores, then how the next tick
sees it. -/

namespace Sys2Proof

namespace Machine

variable {input : List Byte} {s t : State} {a : Addr}

/-! ### Block reads -/

theorem blockOutOfRange_iff {n : Nat} : blockOutOfRange a n = true ↔ 0x10000 < a.toNat + n := decide_eq_true_iff

theorem exec_memReadBlock_of_outside {n : Nat} (h : 0x10000 < a.toNat + n) (s : State) :
    exec (.memReadBlock a n) s = .next (reply .rangeError s) := if_pos (blockOutOfRange_iff.mpr h)

theorem exec_memReadBlock_of_fits {n : Nat} (h : a.toNat + n ≤ 0x10000) (s : State) :
    exec (.memReadBlock a n) s = .next (reply (.bytes (s.mem.readList a.toNat n)) s) :=
  if_neg (mt blockOutOfRange_iff.mp (Nat.not_lt.mpr h))

/-- A block that fits wraps no address, so its entries are bytes of the backing array by address. -/
theorem getElem?_readList_of_fits {n i : Nat} (h : a.toNat + n ≤ 0x10000) (hi : i < n) (s : State) :
    (s.mem.readList a.toNat n)[i]? = some (readMem (BitVec.ofNat 16 (a.toNat + i)) s) := by
  have haddr : (BitVec.ofNat 16 (a.toNat + i)).toNat = a.toNat + i := Nat.mod_eq_of_lt (by omega)
  rw [Memory.getElem?_readList, if_pos hi, readMem, haddr]

/-- Settles O42: one clause for each answer; the empty block fits at every address. -/
theorem hostBlockReadReturnsTheRange : Obligations.HostBlockReadReturnsTheRange :=
  ⟨fun a n => decodeHost_of_encode (i := .memReadBlock a n) rfl, fun _ _ s hout => exec_memReadBlock_of_outside hout s,
    fun a n s hfits => ⟨s.mem.readList a.toNat n, exec_memReadBlock_of_fits hfits s,
      Memory.length_readList s.mem a.toNat n, fun _ hi => getElem?_readList_of_fits hfits hi s⟩,
    fun a s => exec_memReadBlock_of_fits (Nat.le_of_lt a.isLt) s⟩

/-! ### The mirror of a host write -/

/-- The mask and the index of R261 together name the address by its number. -/
theorem inFbRange_and_eq_fbIndex_iff (a : Addr) (j : Byte) :
    inFbRange a = true ∧ j = fbIndex a ↔ a.toNat = 0xC000 + j.toNat where
  mp := fun ⟨hrange, hindex⟩ => (eq_fbIndex_iff (regionOf_of_inFbRange hrange) j).mp hindex
  mpr haddr := by
    have hrange : inFbRange a = true := (inFbRange_iff a).mpr ((fbMask_iff a).mpr (by omega))
    exact ⟨hrange, (eq_fbIndex_iff (regionOf_of_inFbRange hrange) j).mpr haddr⟩

/-- The mirror stores the byte at the index that the address stands for, and only where the parameter holds (R261). -/
theorem readFb_backdoorWrite (a : Addr) (j d : Byte) (s : State) : readFb j (backdoorWrite a d s) =
    if s.cfg.hostWriteFbMirror = true ∧ a.toNat = 0xC000 + j.toNat then d else readFb j s := by
  simp only [← inFbRange_and_eq_fbIndex_iff, ← and_assoc]
  rw [ite_and]
  unfold backdoorWrite
  dsimp only
  split
  · exact readFb_writeFb (fbIndex a) j d (writeMem a d s)
  · rfl

theorem backdoorWrite_cfg (a : Addr) (d : Byte) (s : State) : (backdoorWrite a d s).cfg = s.cfg := by
  rw [backdoorWrite_eq]

/-! ### Block writes -/

/-- Without the mirror parameter a block write leaves the frame buffer alone. -/
theorem readFb_backdoorWriteList_of_no_mirror (j : Byte) (bs : List Byte) (a : Addr)
    (h : s.cfg.hostWriteFbMirror = false) : readFb j (backdoorWriteList a bs s) = readFb j s := by
  induction bs generalizing a s with
  | nil => rfl
  | cons b bs ih =>
    rw [backdoorWriteList, ih _ (by rw [backdoorWrite_cfg, h]), readFb_backdoorWrite, h]
    exact if_neg fun hn => Bool.noConfusion hn.1

/-- Under the mirror parameter, a frame-buffer byte goes through a block write as the byte of a memory at its address
does: once equal, they stay equal. The start `n` is a number, so that the end of the block may be 0x10000. -/
theorem readFb_backdoorWriteList_of_mirror {j : Byte} {bs : List Byte} {n : Nat} {m : Memory}
    (hmirror : s.cfg.hostWriteFbMirror = true) (hfits : n + bs.length ≤ 0x10000)
    (hm : readFb j s = m.read (0xC000 + j.toNat)) :
    readFb j (backdoorWriteList (BitVec.ofNat 16 n) bs s) = (m.writeList n bs).read (0xC000 + j.toNat) := by
  induction bs generalizing n s m with
  | nil => exact hm
  | cons b bs ih =>
    rw [List.length_cons] at hfits
    have haddr : (BitVec.ofNat 16 n).toNat = n := Nat.mod_eq_of_lt (by omega)
    have hnext : BitVec.ofNat 16 n + 1 = BitVec.ofNat 16 (n + 1) := (BitVec.ofNat_add n 1).symm
    rw [backdoorWriteList, hnext]
    refine ih (by rw [backdoorWrite_cfg, hmirror]) (by omega) ?stored
    case stored =>
      rw [readFb_backdoorWrite, haddr, Memory.read_write, hm]
      simp only [hmirror, true_and, eq_comm]

/-- The frame buffer after a block write that fits: its part of the range, where the parameter holds (R263). -/
theorem readFb_backdoorWriteList {bs : List Byte} (hfits : a.toNat + bs.length ≤ 0x10000) (j : Byte) (s : State) :
    readFb j (backdoorWriteList a bs s) =
      if s.cfg.hostWriteFbMirror = true ∧ a.toNat ≤ 0xC000 + j.toNat ∧ 0xC000 + j.toNat < a.toNat + bs.length
      then bs.getD (0xC000 + j.toNat - a.toNat) 0 else readFb j s := by
  cases hmirror : s.cfg.hostWriteFbMirror with
  | false =>
    rw [readFb_backdoorWriteList_of_no_mirror j bs a hmirror, if_neg fun hn => Bool.noConfusion hn.1]
  | true =>
    have hfb : Memory.read (Memory.write [] (0xC000 + j.toNat) (readFb j s)) (0xC000 + j.toNat) = readFb j s := by
      rw [Memory.read_write, if_pos rfl]
    have hblock := readFb_backdoorWriteList_of_mirror hmirror hfits hfb.symm
    rw [BitVec.ofNat_toNat, BitVec.setWidth_eq, Memory.read_writeList, hfb] at hblock
    simpa only [true_and] using hblock

theorem readMem_backdoorWriteList {bs : List Byte} (hfits : a.toNat + bs.length ≤ 0x10000) (b : Addr) (s : State) :
    readMem b (backdoorWriteList a bs s) =
      if a.toNat ≤ b.toNat ∧ b.toNat < a.toNat + bs.length then bs.getD (b.toNat - a.toNat) 0 else readMem b s := by
  rw [readMem, backdoorWriteList_mem bs a s hfits]
  exact Memory.read_writeList bs a.toNat s.mem b.toNat

theorem exec_memWriteBlock_of_outside {bs : List Byte} (h : 0x10000 < a.toNat + bs.length) (s : State) :
    exec (.memWriteBlock a bs) s = .next (reply .rangeError s) := if_pos (blockOutOfRange_iff.mpr h)

theorem exec_memWriteBlock_of_fits {bs : List Byte} (h : a.toNat + bs.length ≤ 0x10000) (s : State) :
    exec (.memWriteBlock a bs) s = .next (reply .ok (backdoorWriteList a bs s)) :=
  if_neg (mt blockOutOfRange_iff.mp (Nat.not_lt.mpr h))

/-- Settles O43: one clause for each answer, the two arrays by their own lemma and the frame by
`backdoorWriteList_eq`. -/
theorem hostBlockWriteStoresTheRange : Obligations.HostBlockWriteStoresTheRange := by
  refine ⟨fun a bs => decodeHost_of_encode (i := .memWriteBlock a bs) rfl,
    fun _ _ s hout => exec_memWriteBlock_of_outside hout s,
    fun a bs s hfits => ⟨reply .ok (backdoorWriteList a bs s), exec_memWriteBlock_of_fits hfits s,
      fun b => readMem_backdoorWriteList hfits b s, fun j => readFb_backdoorWriteList hfits j s, ?frame⟩⟩
  case frame => exact congrArg (reply .ok) (backdoorWriteList_eq bs a s)

/-! ### Single bytes, and the next tick -/

/-- Settles O41: the stores by address and by index; the next tick reads the queue and the configuration, which the
write leaves alone, for the cell and for the line. -/
theorem hostWriteStoresWithMirror : Obligations.HostWriteStoresWithMirror := by
  refine ⟨fun a d => decodeHost_of_encode (i := .memWrite a d) rfl, fun a d s =>
    ⟨reply .none (backdoorWrite a d s), rfl, fun b => readMem_backdoorWrite a b d s,
      fun j => readFb_backdoorWrite a j d s, ?frame⟩, fun input d s t h => ?next⟩
  case frame => rw [backdoorWrite_eq]; rfl
  case next =>
    have hqueue : t.ttyq = s.ttyq := by cases h; exact backdoorWrite_ttyq 0x00FF d s
    have hcfg : t.cfg = s.cfg := by cases h; exact backdoorWrite_cfg 0x00FF d s
    have hcell := irqCell_tickToAccess input t
    have hline := tick_irq input t
    rw [hqueue] at hcell hline
    rw [hcfg] at hline
    exact ⟨hcell, hline, hline.trans (tick_irq input s).symm⟩

theorem regionOf_fbAddr (i : Byte) : regionOf (fbAddr i) = .frameBuffer := by
  rw [regionOf_eq_frameBuffer_iff, toNat_fbAddr]
  omega

/-- A tick that writes an address outside the cell leaves the byte driven there, in whatever region it lies. -/
theorem readMem_tick_of_write (ha : a ≠ irqCellAddr) (hw : (tick input s).pins.rw = false)
    (haddr : (tick input s).pins.addr = a) : readMem a (tick input s) = (tick input s).pins.data := by
  rw [tick_rw] at hw
  rw [tick_addr] at haddr
  rw [tick_data_of_write input s hw, readMem_tick_eq input s ha, if_pos ⟨hw, haddr.symm⟩]

/-- Settles O44: a read cycle takes DATA from the frame buffer, and a write cycle stores the byte driven in both
arrays. -/
theorem frameBufferPresetSeenByCpu : Obligations.FrameBufferPresetSeenByCpu := by
  refine ⟨fun i d => decodeHost_of_encode (i := .fbWrite i d) rfl, fun i d s =>
    ⟨reply .none (writeFb i d s), rfl, fun j => readFb_writeFb i j d s, rfl⟩,
    fun i d input s t h hr haddr => ?read, fun i input s hw haddr => ?write⟩
  case read =>
    obtain rfl : t = reply .none (writeFb i d s) := by cases h; rfl
    rw [tick_data_of_frameBuffer_read (regionOf_fbAddr i) hr haddr, fbIndex_fbAddr]
    exact (readFb_writeFb i i d s).trans (if_pos rfl)
  case write =>
    have hne : fbAddr i ≠ irqCellAddr := fun heq => absurd (heq ▸ regionOf_fbAddr i) (by decide)
    have hfb := readFb_tick_of_frameBuffer_write (regionOf_fbAddr i) hw haddr
    rw [fbIndex_fbAddr] at hfb
    exact (readMem_tick_of_write hne hw haddr).trans hfb.symm

end Machine

end Sys2Proof
end

section
/-! PROOFS. What the classes of a cycle cannot reach (60_exceptions R290, 10_state R43): exec's answer to a bus-cycle class
and to a debug-match class, each with the fields that it may change named. -/

namespace Sys2Proof

namespace Machine

variable {i : Instr} {s t : State}

theorem eq_classEffect_of_exec (hport : i.port ≠ .host) (h : exec i s = .next t) : t = classEffect i s := by
  rw [exec_class hport] at h
  cases h
  rfl

/-- A bus-cycle class reaches the two arrays, the queue, the sink and DATA only (40_bus_fabric R125). -/
theorem exec_bus_frame (hport : i.port = .bus) (h : exec i s = .next t) :
    t = { s with
      mem := t.mem, fb := t.fb, ttyq := t.ttyq, ttyOut := t.ttyOut, pins := { s.pins with data := t.pins.data } } := by
  obtain rfl := eq_classEffect_of_exec (by rw [hport]; decide) h
  exact classEffect_bus hport s

/-- A debug-match class reaches the two hit latches only (42_debug_matcher R197 to R199). -/
theorem exec_debug_frame (hport : i.port = .debug) (h : exec i s = .next t) :
    t = { s with
      bpHit := t.bpHit, bpHitAddr := t.bpHitAddr, wpHit := t.wpHit, wpHitAddr := t.wpHitAddr,
      wpHitType := t.wpHitType } := by
  obtain rfl := eq_classEffect_of_exec (by rw [hport]; decide) h
  exact classEffect_debug hport s

/-- Settles O53: every field that the statement speaks of lies outside the frame of its kind of class. -/
theorem busCyclesCannotReachHostState : Obligations.BusCyclesCannotReachHostState := by
  refine ⟨fun i s t hport h => ?bus, fun i s t hport h => ?debug⟩
  case bus =>
    rw [exec_bus_frame hport h, sameHostOnly]
    and_intros <;> rfl
  case debug =>
    rw [exec_debug_frame hport h]
    and_intros <;> rfl

end Machine

end Sys2Proof
end

section
/-! PROOFS. When the CPU sees the IRQ line (70_reset_and_hazards R318): a tick drives the CPU in its step 2, with the pin
word from before it, and drives the line in its step 7. -/

namespace Sys2Proof

namespace Machine

theorem tick_cpu_seen (input : List Byte) (s : State) : (tick input s).cpu.seen = s.cpu.seen ++ [s.pins] := by
  rw [tick_cpu, cpuTick_seen]

theorem tick_tick_cpu_seen (in1 in2 : List Byte) (s : State) :
    (tick in2 (tick in1 s)).cpu.seen = s.cpu.seen ++ [s.pins, (tick in1 s).pins] := by
  rw [tick_cpu_seen, tick_cpu_seen, List.append_assoc, List.singleton_append]

/-- Settles O48: each tick records the pin word from before it, which in the second is the one that the first left, with
the line by `tick_irq` and NMI by `tick_nmi`. -/
theorem cpuSeesTheLineOneTickLater : Obligations.CpuSeesTheLineOneTickLater := fun in1 in2 s =>
  ⟨tick_tick_cpu_seen in1 in2 s, tick_irq in1 s, tick_nmi in1 s⟩

end Machine

end Sys2Proof
end

section
/-! PROOFS. The packed pin word (30_encoding R90): each slice of a packed word is a field, and a word put together from
its own adjacent slices is that word again. -/

namespace Sys2Proof

theorem ofBool_getLsbD {n : Nat} (w : BitVec n) (k : Nat) : BitVec.ofBool (w.getLsbD k) = w.extractLsb' k 1 := by
  apply BitVec.eq_of_getLsbD_eq
  intro j hj
  obtain rfl : j = 0 := Nat.lt_one_iff.mp hj
  simp

/-- The width is spelled as the sum of the fields' widths: the library's rules for a slice of an append match a sum and
not 64. -/
theorem slice_packPins (p : Pins) (start len : Nat) :
    (packPins p).extractLsb' start len = BitVec.extractLsb' (n := 33 + 1 + 2 + 1 + 1 + 1 + 1 + 8 + 16) start len
      (p.other.extractLsb' 2 33 ++ BitVec.ofBool p.res ++ p.other.extractLsb' 0 2 ++ BitVec.ofBool p.nmi ++
        BitVec.ofBool p.irq ++ BitVec.ofBool p.sync ++ BitVec.ofBool p.rw ++ p.data ++ p.addr) := rfl

/-- The table of R90 for the fields of more than one bit: each slice starts where the fields below it end. -/
theorem packPins_wide_fields (p : Pins) :
    (packPins p).extractLsb' 0 16 = p.addr ∧ (packPins p).extractLsb' 16 8 = p.data ∧
    (packPins p).extractLsb' 28 2 = p.other.extractLsb' 0 2 ∧
    (packPins p).extractLsb' 31 33 = p.other.extractLsb' 2 33 := by
  simp only [slice_packPins]
  and_intros <;>
    simp (disch := decide) only [BitVec.extractLsb'_append_eq_of_le, BitVec.extractLsb'_append_eq_right,
      BitVec.extractLsb'_eq_self, Nat.reduceSub]

/-- The table of R90 for the fields of one bit, each read as a slice of width 1. -/
theorem packPins_flags (p : Pins) :
    (packPins p).getLsbD 24 = p.rw ∧ (packPins p).getLsbD 25 = p.sync ∧ (packPins p).getLsbD 26 = p.irq ∧
    (packPins p).getLsbD 27 = p.nmi ∧ (packPins p).getLsbD 30 = p.res := by
  simp only [← BitVec.ofBool_eq_iff_eq, ofBool_getLsbD, slice_packPins]
  and_intros <;>
    simp (disch := decide) only [BitVec.extractLsb'_append_eq_of_le, BitVec.extractLsb'_append_eq_right, Nat.reduceSub]

theorem unpackPins_packPins (p : Pins) : unpackPins (packPins p) = p := by
  obtain ⟨haddr, hdata, hlow, hhigh⟩ := packPins_wide_fields p
  obtain ⟨hrw, hsync, hirq, hnmi, hres⟩ := packPins_flags p
  have hother : p.other.extractLsb' 2 33 ++ p.other.extractLsb' 0 2 = p.other :=
    BitVec.extractLsb'_append_extractLsb' (w := 33) (len := 2)
  rw [unpackPins, haddr, hdata, hrw, hsync, hirq, hnmi, hres, hhigh, hlow, hother]

/-- The slices that `unpackPins` takes are adjacent and cover the word, so they join to the whole of it. -/
theorem packPins_unpackPins (w : BitVec 64) : packPins (unpackPins w) = w := by
  have hhigh : (unpackPins w).other.extractLsb' 2 33 = w.extractLsb' 31 33 := BitVec.extractLsb'_append_eq_left
  have hlow : (unpackPins w).other.extractLsb' 0 2 = w.extractLsb' 28 2 := BitVec.extractLsb'_append_eq_right
  calc packPins (unpackPins w)
    _ = (packPins (unpackPins w)).extractLsb' 0 64 := BitVec.extractLsb'_eq_self.symm
    _ = w := by
      rw [slice_packPins, hhigh, hlow]
      simp only [unpackPins, ofBool_getLsbD, BitVec.extractLsb'_append_extractLsb'_eq_extractLsb',
        BitVec.extractLsb'_eq_self]

/-- Settles O5: the two round trips and the table of R90. -/
theorem pinWordPacksLosslessly : Obligations.PinWordPacksLosslessly :=
  ⟨unpackPins_packPins, packPins_unpackPins, fun p =>
    have ⟨haddr, hdata, _, _⟩ := packPins_wide_fields p
    ⟨haddr, hdata, packPins_flags p⟩⟩

end Sys2Proof
end
